-- ==== Sys2Proof/Word.lean ====
section
/-! DEFINITION. The words of the Ralvor 3408 bridge that really are bits: the byte of a frame, a burst or
a record, the 32-bit ring index, the 16-bit fault sequence and the 32-bit µs timestamp. Everything the manual
only counts or compares (addresses, epochs, granules, occupancies) is a plain natural number. -/

namespace Sys2Proof

/-- One byte of a management frame, of write data or of a ring record. -/
abbrev Byte := BitVec 8

/-- A ring index or Ring Sequence: a 32-bit count taken modulo 2^32 (section 0.6, R100). -/
abbrev Seq := BitVec 32

/-- A fault sequence, 0 to 65535, returning to 0 after 65535 (R160). -/
abbrev FaultSeq := BitVec 16

/-- The count of microseconds since the release of RST_N, modulo 2^32 (R160). -/
abbrev Timestamp := BitVec 32

end Sys2Proof
end

