-- ==== Sys2Proof/Config.lean ====
section
/-! DEFINITION. The fixed sizes of this LSI. The manual fixes every one of them; none is left to an
implementation, and no value of this model is a free value (see NOTES.md). -/

namespace Sys2Proof.Config

/-- Bytes of a granule (Table 0.5.1). -/
def granuleBytes : Nat := 4096

/-- The first address above the 40-bit address space of both ports (section 0.6). -/
def addressSpace : Nat := 2 ^ 40

/-- The first number above the granule numbers; also the greatest Memory Limit (R13). -/
def granuleSpace : Nat := 2 ^ 28

/-- Tracker entries (R133). -/
def trackerEntries : Nat := 48

/-- Hold Queue entries (R70). -/
def holdQueueEntries : Nat := 8

/-- Copy operations in flight (R83). -/
def copyOperations : Nat := 4

/-- Reads of one copy (R86) and data writes of one DATA record (R89). -/
def copyReads : Nat := 16

/-- Bytes of one copy read, one DATA data write and one END spill write (Table 8.1.1). -/
def burstBytes : Nat := 256

/-- Entries of a dirty list (R38). -/
def dirtyEntries : Nat := 4096

/-- Bytes of a ring slot (R97). -/
def slotBytes : Nat := 4160

/-- Bytes of a slot's header (R97). -/
def headerBytes : Nat := 64

/-- Records of the Epoch Log (R115). -/
def logRecords : Nat := 16

/-- Records of the Fault Queue (R161). -/
def faultRecords : Nat := 8

/-- Downstream tags (R150). -/
def tags : Nat := 256

/-- OUTSTANDING tags at most (R146). -/
def outstandingLimit : Nat := 64

/-- The greatest epoch number (section 3.2). -/
def lastEpoch : Nat := 4294967295

/-- The first number above a counter's value (Table 10.1.1). -/
def counterSpace : Nat := 2 ^ 48

end Sys2Proof.Config
end

