-- ==== Sys2Proof/Syntax.lean ====
section
/-! DEFINITION. The commands of the bridge: one constructor of `Instr` per row of spec/opcode_table.json, with
the row's operands. A management command carries its parameter fields as the frame gives them (Table 12.1.5); an
event of a port, a pin or the timebase carries what the outside presents with it. -/

namespace Sys2Proof

/-- The direction of a transaction, a request or a response (Table 7.1.1). -/
inductive Direction where
  | read
  | write
deriving DecidableEq, Repr

/-- What the interconnect presents with every transaction (Table 7.1.1); the direction is given by the row that
carries it. -/
structure Txn where
  /-- initiator ID, 0 to 63 -/
  initiator : Nat
  /-- ordering tag, 0 to 15 -/
  otag : Nat
  /-- host address, below 2^40 -/
  host : Nat
  /-- announced length in bytes -/
  length : Nat
  /-- announced number of data bytes that the beats carry -/
  beats : Nat
  /-- exclusive marker -/
  exclusive : Bool
deriving DecidableEq, Repr

/-- A write as the staging buffer takes it: the request, the bytes of its beats and their strobes (R126, R130). -/
structure WriteTxn where
  txn : Txn
  data : List Byte
  strobes : List Bool
deriving DecidableEq, Repr

/-- What an ACCEPTANCE accepts: a read request on the read path, or the staged write at its last beat
(R129, R130). -/
inductive Presented where
  | read (t : Txn)
  | lastBeat
deriving DecidableEq, Repr

/-- The result of a downstream response (section 8.5). -/
inductive DsResult where
  | okay
  | error
deriving DecidableEq, Repr

/-- A response of the memory controller without its result: the tag it bears, its direction, its data (empty for a
write) and any exclusive result (section 8.5). -/
structure Response where
  tag : Nat
  direction : Direction
  data : List Byte
  exclusive : Option Bool
deriving DecidableEq, Repr

/-- The commands and events of spec/opcode_table.json, in the table's order. -/
inductive Instr where
  /-- R184 -/
  | readStatus
  /-- R2 -/
  | setMode (mode : Nat)
  /-- R13 -/
  | setMemoryLimit (limit : Nat)
  /-- R185 -/
  | setTimeouts (response hold : Nat)
  /-- R148 -/
  | setCopyShare (share : Nat)
  /-- R4 -/
  | mapInitiator (initiator domain : Nat)
  /-- R4 -/
  | readDomainMap
  /-- R14 -/
  | installWindow (window domain anchor growth extent base key journaled : Nat)
  /-- R21 -/
  | removeWindow (window : Nat)
  /-- R19 -/
  | extendWindow (window extent : Nat)
  /-- R20 -/
  | setKey (window key : Nat)
  /-- R22 -/
  | readWindow (window : Nat)
  /-- R52 -/
  | journalStart (epoch : Nat)
  /-- R55 -/
  | cut
  /-- R58 -/
  | journalStop
  /-- R59 -/
  | abandon
  /-- R45 -/
  | readBank (bank start : Nat)
  /-- R47 -/
  | lookupGranule (granule : Nat)
  /-- R46 -/
  | readSpill (bank start : Nat)
  /-- R98: CONFIGURE_RING with a slot count from 1 upward -/
  | configureRing (base slots : Nat)
  /-- R99: CONFIGURE_RING with a slot count of 0; the base is ignored -/
  | unconfigureRing (base : Nat)
  /-- R110 -/
  | releaseSlots (count : Nat)
  /-- R113 -/
  | readRing
  /-- R112 -/
  | setRingLow (threshold : Nat)
  /-- R118 -/
  | readEpoch (age start : Nat)
  /-- R163 -/
  | readFault
  /-- R173 -/
  | setCounter (counter event domain window direction scope enable : Nat)
  /-- R174 -/
  | readCounter (counter : Nat)
  /-- R175 -/
  | clearCounter (counter : Nat)
  /-- R123 -/
  | setAlertEnable (causes : Byte)
  /-- R124 -/
  | readAlerts
  /-- R122 -/
  | ackAlerts (causes : Byte)
  /-- R182: CS_N falls -/
  | csNFall
  /-- R181: CS_N rises -/
  | csNRise
  /-- R177: bytes shifted in on SDI, up to a frame's CRC byte -/
  | requestFrame (bytes : List Byte)
  /-- R178: the refusal of the well-formed frame that awaits -/
  | frameRefusal
  /-- R186 -/
  | rstNAssert
  /-- R143 -/
  | rstNRelease
  /-- R139 -/
  | portRstNAssert
  /-- R141 -/
  | portRstNDeassert
  /-- R62 -/
  | pwrwarnAssert
  /-- R62 -/
  | pwrwarnDeassert
  /-- R130 -/
  | writeStaging (w : WriteTxn)
  /-- R131 -/
  | acceptance (p : Presented)
  /-- R146: the memory controller takes a request -/
  | grant
  /-- R152 -/
  | responseOkay (r : Response)
  /-- R153 -/
  | responseError (r : Response)
  /-- R155 -/
  | lateResponse (result : DsResult) (r : Response)
  /-- R154: the response timer of a tag expires -/
  | responseTimerExpiry (tag : Nat)
  /-- R82: the hold timer of the write in a tracker entry expires -/
  | holdTimerExpiry (entry : Nat)
  /-- R169: a microsecond tick of the timebase -/
  | usTick
  /-- R180: a byte shifts out on SDO -/
  | responseByteShiftedOut
deriving DecidableEq, Repr

end Sys2Proof
end

