-- ==== Sys2Proof/WellFormed.lean ====
section
/-! DEFINITION. Well-formed commands: those that the outside can present at all. A management parameter must fit the
bytes Table 12.1.5 gives it ("a value that the field size cannot hold cannot be presented", R187); a value that fits
and is out of its range is well formed, and the owning rule answers BAD_PARAM. A port event must carry fields of
Table 7.1.1 and Table 8.4.1. -/

namespace Sys2Proof

/-- The value fits in n bytes. -/
def fitsBytes (n v : Nat) : Bool := decide (v < 256 ^ n)

/-- The fields of Table 7.1.1 that have a width: initiator ID, ordering tag, host address. -/
def Txn.wf (t : Txn) : Bool :=
  decide (t.initiator < 64) && decide (t.otag < 16) && decide (t.host < Config.addressSpace)

/-- A write carries one strobe per data byte, and its beats carry the bytes announced (Table 7.1.1). -/
def WriteTxn.wf (w : WriteTxn) : Bool :=
  w.txn.wf && decide (w.data.length = w.txn.beats) && decide (w.strobes.length = w.data.length)

/-- A response bears one of the 256 tags (Table 8.4.1). -/
def Response.wf (r : Response) : Bool := decide (r.tag < Config.tags)

/-- The command can be presented. -/
def Instr.wf : Instr → Bool
  | .readStatus | .readDomainMap | .cut | .journalStop | .abandon | .readRing | .readFault | .readAlerts => true
  | .setMode m => fitsBytes 1 m
  | .setMemoryLimit l => fitsBytes 4 l
  | .setTimeouts r h => fitsBytes 2 r && fitsBytes 2 h
  | .setCopyShare n => fitsBytes 1 n
  | .mapInitiator i d => fitsBytes 1 i && fitsBytes 1 d
  | .installWindow w d a g e b k j =>
    fitsBytes 1 w && fitsBytes 1 d && fitsBytes 6 a && fitsBytes 1 g && fitsBytes 3 e && fitsBytes 6 b &&
      fitsBytes 1 k && fitsBytes 1 j
  | .removeWindow w => fitsBytes 1 w
  | .extendWindow w e => fitsBytes 1 w && fitsBytes 3 e
  | .setKey w k => fitsBytes 1 w && fitsBytes 1 k
  | .readWindow w => fitsBytes 1 w
  | .journalStart e => fitsBytes 4 e
  | .readBank b i => fitsBytes 1 b && fitsBytes 2 i
  | .lookupGranule g => fitsBytes 4 g
  | .readSpill b i => fitsBytes 1 b && fitsBytes 1 i
  | .configureRing b n => fitsBytes 6 b && fitsBytes 2 n && decide (n ≠ 0)
  | .unconfigureRing b => fitsBytes 6 b
  | .releaseSlots n => fitsBytes 2 n
  | .setRingLow n => fitsBytes 2 n
  | .readEpoch a i => fitsBytes 1 a && fitsBytes 1 i
  | .setCounter c e d w r s n =>
    fitsBytes 1 c && fitsBytes 1 e && fitsBytes 1 d && fitsBytes 1 w && fitsBytes 1 r && fitsBytes 1 s && fitsBytes 1 n
  | .readCounter c => fitsBytes 1 c
  | .clearCounter c => fitsBytes 1 c
  | .setAlertEnable _ | .ackAlerts _ => true
  | .csNFall | .csNRise | .frameRefusal => true
  | .requestFrame bs => decide (bs.length ≤ 65)
  | .rstNAssert | .rstNRelease | .portRstNAssert | .portRstNDeassert | .pwrwarnAssert | .pwrwarnDeassert => true
  | .writeStaging w => w.wf
  | .acceptance (.read t) => t.wf
  | .acceptance .lastBeat => true
  | .grant => true
  | .responseOkay r => r.wf
  | .responseError r => r.wf
  | .lateResponse _ r => r.wf
  | .responseTimerExpiry t => decide (t < Config.tags)
  | .holdTimerExpiry n => decide (n < Config.trackerEntries)
  | .usTick | .responseByteShiftedOut => true

end Sys2Proof
end

