-- ==== Sys2Proof/Decode.lean ====
section
/-! DEFINITION. Reading a command. The rows of spec/opcode_table.json give no bits, so `decodeTableWord` reads
none. The one encoding the spec does give its commands is the management frame (R177, R187): this file holds the
byte order of its fields, its CRC-8, the codes of Table 11.4.1 and the parameters of Table 12.1.5, in both
directions. -/

namespace Sys2Proof

/-- No row of the opcode table has bits, so no word spells a command. -/
def decodeTableWord (_nbits _w : Nat) : Option Instr := none

/-- v in n bytes, most significant byte first (section 12.1). -/
def beBytes : Nat → Nat → List Byte
  | 0, _ => []
  | n + 1, v => BitVec.ofNat 8 (v / 256 ^ n) :: beBytes n v

/-- The number that bytes give, most significant byte first. -/
def beNat (bs : List Byte) : Nat := bs.foldl (fun n b => n * 256 + b.toNat) 0

/-- The field of n bytes at an offset of a parameter list. -/
def field (params : List Byte) (offset n : Nat) : Nat := beNat ((params.drop offset).take n)

/-- One bit of the CRC-8 with polynomial 0x07 (R189). -/
def crc8Bit (c : Byte) : Byte := if c.msb then (c <<< 1) ^^^ 0x07#8 else c <<< 1

/-- CRC-8 over bytes: initial value 0, most significant bit first, no reflection, no final XOR (R189). -/
def crc8 (bs : List Byte) : Byte :=
  bs.foldl (fun c b => (List.range 8).foldl (fun c _ => crc8Bit c) (c ^^^ b)) 0#8

/-- The start byte of a request frame (Table 12.1.1). -/
def requestStart : Byte := 0xA5#8

/-- The start byte of a response frame (Table 12.1.2). -/
def responseStart : Byte := 0x5A#8

/-- The parameter length of a command code (Table 12.1.5); none for a code outside Table 11.4.1. -/
def paramLength (code : Byte) : Option Nat :=
  match code.toNat with
  | 0x01 => some 0
  | 0x02 => some 1
  | 0x03 => some 4
  | 0x04 => some 4
  | 0x05 => some 1
  | 0x10 => some 2
  | 0x11 => some 0
  | 0x12 => some 20
  | 0x13 => some 1
  | 0x14 => some 4
  | 0x15 => some 2
  | 0x16 => some 1
  | 0x20 => some 4
  | 0x21 => some 0
  | 0x22 => some 0
  | 0x23 => some 0
  | 0x24 => some 3
  | 0x25 => some 4
  | 0x26 => some 2
  | 0x30 => some 8
  | 0x31 => some 2
  | 0x32 => some 0
  | 0x33 => some 2
  | 0x34 => some 2
  | 0x40 => some 0
  | 0x50 => some 7
  | 0x51 => some 1
  | 0x52 => some 1
  | 0x60 => some 1
  | 0x61 => some 0
  | 0x62 => some 1
  | _ => none

/-- The command of a code with parameters of the right length, fields in the order of Table 12.1.5. -/
def commandOfFields (code : Byte) (p : List Byte) : Option Instr :=
  match code.toNat with
  | 0x01 => some .readStatus
  | 0x02 => some (.setMode (field p 0 1))
  | 0x03 => some (.setMemoryLimit (field p 0 4))
  | 0x04 => some (.setTimeouts (field p 0 2) (field p 2 2))
  | 0x05 => some (.setCopyShare (field p 0 1))
  | 0x10 => some (.mapInitiator (field p 0 1) (field p 1 1))
  | 0x11 => some .readDomainMap
  | 0x12 =>
    some (.installWindow (field p 0 1) (field p 1 1) (field p 2 6) (field p 8 1) (field p 9 3) (field p 12 6)
      (field p 18 1) (field p 19 1))
  | 0x13 => some (.removeWindow (field p 0 1))
  | 0x14 => some (.extendWindow (field p 0 1) (field p 1 3))
  | 0x15 => some (.setKey (field p 0 1) (field p 1 1))
  | 0x16 => some (.readWindow (field p 0 1))
  | 0x20 => some (.journalStart (field p 0 4))
  | 0x21 => some .cut
  | 0x22 => some .journalStop
  | 0x23 => some .abandon
  | 0x24 => some (.readBank (field p 0 1) (field p 1 2))
  | 0x25 => some (.lookupGranule (field p 0 4))
  | 0x26 => some (.readSpill (field p 0 1) (field p 1 1))
  | 0x30 =>
    some (if field p 6 2 = 0 then .unconfigureRing (field p 0 6) else .configureRing (field p 0 6) (field p 6 2))
  | 0x31 => some (.releaseSlots (field p 0 2))
  | 0x32 => some .readRing
  | 0x33 => some (.setRingLow (field p 0 2))
  | 0x34 => some (.readEpoch (field p 0 1) (field p 1 1))
  | 0x40 => some .readFault
  | 0x50 =>
    some (.setCounter (field p 0 1) (field p 1 1) (field p 2 1) (field p 3 1) (field p 4 1) (field p 5 1) (field p 6 1))
  | 0x51 => some (.readCounter (field p 0 1))
  | 0x52 => some (.clearCounter (field p 0 1))
  | 0x60 => some (.setAlertEnable (BitVec.ofNat 8 (field p 0 1)))
  | 0x61 => some .readAlerts
  | 0x62 => some (.ackAlerts (BitVec.ofNat 8 (field p 0 1)))
  | _ => none

/-- The command that a well-formed frame's code and parameters name; none where R178 refuses the frame. -/
def commandOf (code : Byte) (params : List Byte) : Option Instr :=
  if paramLength code = some params.length then commandOfFields code params else none

/-- The code and the parameters of a management command (Tables 11.4.1 and 12.1.5); none for an event of a port, a pin
or the timebase, which no frame names. -/
def encode : Instr → Option (Byte × List Byte)
  | .readStatus => some (0x01#8, [])
  | .setMode m => some (0x02#8, beBytes 1 m)
  | .setMemoryLimit l => some (0x03#8, beBytes 4 l)
  | .setTimeouts r h => some (0x04#8, beBytes 2 r ++ beBytes 2 h)
  | .setCopyShare n => some (0x05#8, beBytes 1 n)
  | .mapInitiator i d => some (0x10#8, beBytes 1 i ++ beBytes 1 d)
  | .readDomainMap => some (0x11#8, [])
  | .installWindow w d a g e b k j =>
    some (0x12#8, beBytes 1 w ++ beBytes 1 d ++ beBytes 6 a ++ beBytes 1 g ++ beBytes 3 e ++ beBytes 6 b ++
      beBytes 1 k ++ beBytes 1 j)
  | .removeWindow w => some (0x13#8, beBytes 1 w)
  | .extendWindow w e => some (0x14#8, beBytes 1 w ++ beBytes 3 e)
  | .setKey w k => some (0x15#8, beBytes 1 w ++ beBytes 1 k)
  | .readWindow w => some (0x16#8, beBytes 1 w)
  | .journalStart e => some (0x20#8, beBytes 4 e)
  | .cut => some (0x21#8, [])
  | .journalStop => some (0x22#8, [])
  | .abandon => some (0x23#8, [])
  | .readBank b i => some (0x24#8, beBytes 1 b ++ beBytes 2 i)
  | .lookupGranule g => some (0x25#8, beBytes 4 g)
  | .readSpill b i => some (0x26#8, beBytes 1 b ++ beBytes 1 i)
  | .configureRing b n => some (0x30#8, beBytes 6 b ++ beBytes 2 n)
  | .unconfigureRing b => some (0x30#8, beBytes 6 b ++ beBytes 2 0)
  | .releaseSlots n => some (0x31#8, beBytes 2 n)
  | .readRing => some (0x32#8, [])
  | .setRingLow n => some (0x33#8, beBytes 2 n)
  | .readEpoch a i => some (0x34#8, beBytes 1 a ++ beBytes 1 i)
  | .readFault => some (0x40#8, [])
  | .setCounter c e d w r s n =>
    some (0x50#8, beBytes 1 c ++ beBytes 1 e ++ beBytes 1 d ++ beBytes 1 w ++ beBytes 1 r ++ beBytes 1 s ++ beBytes 1 n)
  | .readCounter c => some (0x51#8, beBytes 1 c)
  | .clearCounter c => some (0x52#8, beBytes 1 c)
  | .setAlertEnable x => some (0x60#8, [x])
  | .readAlerts => some (0x61#8, [])
  | .ackAlerts x => some (0x62#8, [x])
  | .csNFall | .csNRise | .requestFrame _ | .frameRefusal | .rstNAssert | .rstNRelease | .portRstNAssert
  | .portRstNDeassert | .pwrwarnAssert | .pwrwarnDeassert | .writeStaging _ | .acceptance _ | .grant | .responseOkay _
  | .responseError _ | .lateResponse _ _ | .responseTimerExpiry _ | .holdTimerExpiry _ | .usTick
  | .responseByteShiftedOut => none

/-- A request frame: start byte, code, tag, parameter length, parameters, CRC-8 of all before it (Table 12.1.1). -/
def requestFrameOf (code tag : Byte) (params : List Byte) : List Byte :=
  let body := requestStart :: code :: tag :: BitVec.ofNat 8 params.length :: params
  body ++ [crc8 body]

/-- The request frame of a management command. -/
def frameOf (tag : Byte) (i : Instr) : Option (List Byte) :=
  (encode i).map fun cp => requestFrameOf cp.1 tag cp.2

end Sys2Proof
end

