-- ==== Sys2Proof/Machine/State.lean ====
section
/-! DEFINITION. The state of the bridge: what each of the eleven blocks of Table 0.3.1 owns, the sampled input
pins, the timebase, the ports' outputs, and the queue of the commands and events that wait to be taken. All of it is plain
data. `State.reset` is the bridge right after RST_N is released with PORT_RST_N high. -/

namespace Sys2Proof.Machine

/-! ## Window Unit (chapter 1) -/

/-- Bridge Mode (R1). -/
inductive Mode where
  | transparent
  | guarded
deriving DecidableEq, Repr

/-- The side of the anchor on which a window lies (Table 1.3.1). -/
inductive Growth where
  | up
  | down
deriving DecidableEq, Repr

/-- The accesses that a window grants (Table 1.3.1). -/
inductive Key where
  | none
  | read
  | readWrite
deriving DecidableEq, Repr

/-- The fields of an ACTIVE window (Table 1.3.1, R5). -/
structure Window where
  domain : Nat
  anchor : Nat
  growth : Growth
  extent : Nat
  memBase : Nat
  key : Key
  journaled : Bool
deriving DecidableEq, Repr

/-- What WU owns: Bridge Mode (R1), Domain Map with `none` for UNMAPPED (R3), Window Table with `none` for FREE (R5),
Memory Limit in granules (R13). -/
structure WindowUnit where
  mode : Mode
  domainMap : Vector (Option Nat) 64
  windows : Vector (Option Window) 64
  memoryLimit : Nat
deriving DecidableEq, Repr

/-! ## Journal Unit (chapter 2) -/

/-- Bank states (Table 2.2.1). -/
inductive BankState where
  | free
  | opened
  | settling
  | draining
  | closing
deriving DecidableEq, Repr

/-- Entry states (Table 2.5.1). -/
inductive EntryState where
  | pending
  | copying
  | copied
  | skipped
deriving DecidableEq, Repr

/-- Damage reasons (Table 3.8.1). -/
inductive DamageReason where
  | holdTimeout
  | copyTimeout
  | copyError
  | recordWrite
  | abandon
deriving DecidableEq, Repr

/-- A dirty-list entry (Table 2.1.2). -/
structure DirtyEntry where
  granule : Nat
  state : EntryState
  held : Nat
deriving DecidableEq, Repr

/-- A spill-list entry (Table 2.1.3). -/
structure SpillEntry where
  window : Nat
  low : Nat
  high : Nat
deriving DecidableEq, Repr

/-- A journal bank (Table 2.1.1); both lists oldest first, the list index being the position (R38). -/
structure Bank where
  state : BankState
  epoch : Option Nat
  dirty : List DirtyEntry
  spill : List SpillEntry
  settle : Nat
  listed : Nat
  copied : Nat
  skipped : Nat
  urgent : Nat
  power : Bool
  portReset : Bool
  damage : Option DamageReason
deriving DecidableEq, Repr

/-- The values a FREE bank holds at every moment (R25). -/
def freeBank : Bank :=
  { state := .free, epoch := none, dirty := [], spill := [], settle := 0, listed := 0, copied := 0, skipped := 0,
    urgent := 0, power := false, portReset := false, damage := none }

/-- The name of a bank. -/
inductive BankId where
  | a
  | b
deriving DecidableEq, Repr

/-- What JU owns: the two banks (R25). -/
structure JournalUnit where
  bankA : Bank
  bankB : Bank
deriving DecidableEq, Repr

/-! ## Epoch Controller (chapters 3 and 6) -/

/-- Journal state (R49). -/
inductive Journal where
  | off
  | recording
deriving DecidableEq, Repr

/-- Epoch status (Table 3.8.2). -/
inductive EpochStatus where
  | complete
  | spilled
  | damaged
  | abandoned
deriving DecidableEq, Repr

/-- An Epoch Log record (Table 6.1.1). -/
structure LogRecord where
  epoch : Nat
  status : EpochStatus
  damage : Option DamageReason
  listed : Nat
  copied : Nat
  skipped : Nat
  urgent : Nat
  firstData : Option Seq
  endSeq : Option Seq
  power : Bool
  portReset : Bool
  spill : List SpillEntry
deriving DecidableEq, Repr

/-- What EC owns: journal state (R49), Power-Cut Pending (R63), Transparent Write Count (R50), Epoch Log newest first,
so that the list position is the age (R115). -/
structure EpochControl where
  journal : Journal
  powerCutPending : Bool
  transparentWrites : Nat
  log : List LogRecord
deriving DecidableEq, Repr

/-! ## Copy Engine (chapter 4) -/

/-- A timer in microseconds: running with the limit it was started with, or stopped (sections 4.4 and 0.6). -/
inductive Timer where
  | running (limit elapsed : Nat)
  | stopped
deriving DecidableEq, Repr

/-- The ordering stream of a held write (Table 4.1.2). -/
structure WriteStream where
  initiator : Nat
  otag : Nat
deriving DecidableEq, Repr

/-- The reason of a hold, with the fields that an OWN hold alone has (Table 4.1.2). -/
inductive HoldReason where
  | own (granule epoch : Nat) (timer : Timer)
  | behind
deriving DecidableEq, Repr

/-- A Hold Queue entry (Table 4.1.2); `entry` is the number of its tracker entry. -/
structure HoldEntry where
  entry : Nat
  stream : WriteStream
  reason : HoldReason
deriving DecidableEq, Repr

/-- The arbiter class of a copy's reads (Table 4.6.1). -/
inductive CopyClass where
  | urgent
  | background
deriving DecidableEq, Repr

/-- A copy operation (Table 4.6.1). `data` has one block for each of the 16 reads, empty until the read returns. -/
structure CopyOp where
  granule : Nat
  epoch : Nat
  index : Nat
  seq : Seq
  urgent : Bool
  cls : CopyClass
  resolved : Nat
  failed : Nat
  abandoned : Bool
  data : List (List Byte)
deriving DecidableEq, Repr

/-- What CE holds (Table 4.1.1): the Hold Queue oldest first, the Hold Limit, the copies in start order. -/
structure CopyEngine where
  holdQueue : List HoldEntry
  holdLimit : Nat
  copies : List CopyOp
deriving DecidableEq, Repr

/-! ## Ring Writer (chapter 5) -/

/-- The place of a configured ring (Table 5.1.1). -/
structure RingPlace where
  base : Nat
  capacity : Nat
deriving DecidableEq, Repr

/-- What a slot was reserved for (Table 5.3.1). -/
inductive SlotUse where
  | dataSlot
  | endSlot
deriving DecidableEq, Repr

/-- Progress of a slot (Table 5.3.1). -/
inductive Progress where
  | reserved
  | writing
  | done
deriving DecidableEq, Repr

/-- The kind of a record (Table 5.3.1). -/
inductive RecordKind where
  | data
  | void
  | ending
deriving DecidableEq, Repr

/-- The record being written into a slot: its kind, the granule it carries (absent for END), its header bytes, how many
writes of its data or spill area there are, how many of these have resolved and how many have failed (R89, R104, R105,
R108). -/
structure RecordWrite where
  kind : RecordKind
  granule : Option Nat
  header : List Byte
  areaWrites : Nat
  resolved : Nat
  failed : Nat
deriving DecidableEq, Repr

/-- A slot table entry (Table 5.3.1) with the slot's position (R101); `record` is absent while RESERVED. -/
structure Slot where
  seq : Seq
  position : Nat
  use : SlotUse
  progress : Progress
  record : Option RecordWrite
deriving DecidableEq, Repr

/-- The epoch account (Table 5.3.2). -/
structure EpochAccount where
  epoch : Option Nat
  firstData : Option Seq
  dataSlots : Nat
  endSeq : Option Seq
deriving DecidableEq, Repr

/-- The empty epoch account. -/
def emptyAccount : EpochAccount := { epoch := none, firstData := none, dataSlots := 0, endSeq := none }

/-- What RW owns: the configuration with `none` for not configured (R97), the three indices (R100; the Ring Sequence is
the reserve index), the next position (R101), the slot table in sequence order (R102), the epoch account, the Pending
End Marker (R107). -/
structure RingWriter where
  place : Option RingPlace
  lowThreshold : Nat
  reserve : Seq
  filled : Seq
  release : Seq
  position : Nat
  slots : List Slot
  account : EpochAccount
  pendingEnd : Option Nat
deriving DecidableEq, Repr

/-! ## Downstream Port (chapter 8) -/

/-- The kind of a downstream request together with its source (Table 8.1.1, R144): the tracker entry of a pass-through
request, the copy (named by its slot's sequence) and read number of a copy read, the slot sequence and part of a record
write. -/
inductive Source where
  | passRead (entry : Nat)
  | passWrite (entry : Nat)
  | copyRead (copy : Seq) (k : Nat)
  | dataWrite (slot : Seq) (k : Nat)
  | dataHeader (slot : Seq)
  | voidHeader (slot : Seq)
  | endSpill (slot : Seq) (k : Nat)
  | endHeader (slot : Seq)
deriving DecidableEq, Repr

/-- A downstream request (R144). A read has no data; a pass-through read has no strobes, and a copy read has every strobe on. -/
structure Request where
  source : Source
  address : Nat
  size : Nat
  data : List Byte
  strobes : List Bool
  exclusive : Bool
  initiator : Option Nat
  domain : Option Nat
  window : Option Nat
deriving DecidableEq, Repr

/-- The state of a tag in use: OUTSTANDING with its response timer's limit and elapsed time, or EXPIRED
(Table 8.4.1). -/
inductive TagState where
  | outstanding (limit elapsed : Nat)
  | expired
deriving DecidableEq, Repr

/-- A tag that is not FREE (Table 8.4.1); the direction is that of its source. -/
structure Tag where
  number : Nat
  state : TagState
  source : Source
  address : Nat
  initiator : Option Nat
  domain : Option Nat
  window : Option Nat
deriving DecidableEq, Repr

/-- What DP owns: the class queues oldest first (R145), the Copy Share and its counter (R147), the Downstream Response
Limit (R151), the tags in use in grant order; a tag not listed is FREE (R150). -/
structure DownstreamPort where
  urgent : List Request
  passThrough : List Request
  background : List Request
  copyShare : Nat
  shareCounter : Nat
  responseLimit : Nat
  tags : List Tag
deriving DecidableEq, Repr

/-! ## Fault Queue (chapter 9) -/

/-- Fault kinds (Table 9.2.1). -/
inductive FaultKind where
  | malformed
  | noDomain
  | noWindow
  | keyDenied
  | downstreamError
  | downstreamTimeout
  | lateResponse
  | copyFailed
deriving DecidableEq, Repr

/-- The optional fields of a fault record (Table 9.1.1). -/
structure FaultFields where
  initiator : Option Nat := none
  direction : Option Direction := none
  host : Option Nat := none
  domain : Option Nat := none
  window : Option Nat := none
  memory : Option Nat := none
  granule : Option Nat := none
deriving DecidableEq, Repr

/-- A fault record (Table 9.1.1). -/
structure FaultRecord where
  seq : FaultSeq
  kind : FaultKind
  fields : FaultFields
  timestamp : Timestamp
deriving DecidableEq, Repr

/-- What FQ owns: the records oldest first and the lost count (R161), the fault sequence counter (R160). -/
structure FaultQueue where
  records : List FaultRecord
  lost : Nat
  nextSeq : FaultSeq
deriving DecidableEq, Repr

/-! ## Alert Unit (chapter 6) -/

/-- Alert causes (Table 6.2.1). -/
inductive Cause where
  | epochClosed
  | epochDamaged
  | spill
  | faultQueued
  | faultLost
  | ringLow
  | counterWrap
  | powerCut
deriving DecidableEq, Repr

/-- What AU owns: the pending and the enable set, each as its byte of Table 12.1.4 (R119). ALERT_N follows from them
(R121). -/
structure AlertUnit where
  pending : Byte
  enable : Byte
deriving DecidableEq, Repr

/-! ## Traffic Monitor (chapter 10) -/

/-- Counter events (Table 10.2.1). -/
inductive CounterEvent where
  | accepted
  | refused
  | bytes
  | held
  | holdOccupancy
  | trackerOccupancy
  | marked
  | spilled
  | copies
  | urgentCopies
  | ringWait
  | dsTimeouts
deriving DecidableEq, Repr

/-- Counter scopes (Table 10.1.1). -/
inductive Scope where
  | freeRunning
  | epoch
deriving DecidableEq, Repr

/-- A counter (Table 10.1.1); a filter of `none` is ANY. -/
structure Counter where
  event : CounterEvent
  domain : Option Nat
  window : Option Nat
  direction : Option Direction
  scope : Scope
  enabled : Bool
  value : Nat
  wrap : Bool
  snapValue : Nat
  snapWrap : Bool
  snapEpoch : Option Nat
deriving DecidableEq, Repr

/-- A counter after power-on reset (Table 10.1.1). -/
def resetCounter : Counter :=
  { event := .accepted, domain := none, window := none, direction := none, scope := .freeRunning, enabled := false,
    value := 0, wrap := false, snapValue := 0, snapWrap := false, snapEpoch := none }

/-- What TM owns: eight counters (R166). -/
structure TrafficMonitor where
  counters : Vector Counter 8
deriving DecidableEq, Repr

/-! ## Upstream Port (chapter 7) -/

/-- An ordering stream (R127). -/
structure Stream where
  initiator : Nat
  otag : Nat
  direction : Direction
deriving DecidableEq, Repr

/-- The states of a tracker entry that is not FREE (Table 7.3.2). -/
inductive Phase where
  | lookupDone
  | held
  | issued
  | answered
deriving DecidableEq, Repr

/-- The outcome of a transaction (R135). -/
inductive UpOutcome where
  | okay
  | refused
deriving DecidableEq, Repr

/-- Delivery of a tracker entry (Table 7.3.1). -/
inductive Delivery where
  | deliver
  | discard
deriving DecidableEq, Repr

/-- A tracker entry that is not FREE (Table 7.3.1), with the write data, strobes and exclusive marker it carries to the
downstream request (R126, R137). -/
structure TrackerEntry where
  number : Nat
  phase : Phase
  stream : Stream
  host : Nat
  length : Nat
  mode : Mode
  domain : Option Nat
  window : Option Nat
  memory : Option Nat
  epochTag : Option Nat
  held : Bool
  outcome : Option UpOutcome
  readData : List Byte
  exclusiveResult : Option Bool
  delivery : Delivery
  data : List Byte
  strobes : List Bool
  exclusive : Bool
deriving DecidableEq, Repr

/-- Port states (Table 7.2.1). -/
inductive PortState where
  | accepting
  | inReset
  | resetDrain
deriving DecidableEq, Repr

/-- What UP owns: the port state (R128), the outstanding tracker entries in acceptance order, an entry number not listed
being FREE (R133), the write staging buffer (R130). The acceptance position of an entry is its place in the list among the
entries of its stream (R127). -/
structure UpstreamPort where
  portState : PortState
  tracker : List TrackerEntry
  staging : Option WriteTxn
deriving DecidableEq, Repr

/-! ## Management Port (chapter 11) -/

/-- Exchange states (Table 11.2.1). -/
inductive Exchange where
  | idle
  | receiving
  | waiting
  | responding
  | spent
  | shutOut
deriving DecidableEq, Repr

/-- Response statuses (Table 11.3.1). -/
inductive Status where
  | ok
  | badFrame
  | unknownCommand
  | badParam
  | wrongMode
  | busy
  | notRecording
  | noRing
  | badEpoch
  | epochLimit
  | overlap
  | ringConflict
  | range
  | notIdle
  | badCount
  | inUse
  | empty
deriving DecidableEq, Repr

/-- The status and the response data that an owning block gives at an execution (R179). -/
structure Answer where
  status : Status
  data : List Byte
deriving DecidableEq, Repr

/-- A well-formed frame that awaits its execution or its refusal (R177 to R179). -/
structure Frame where
  code : Byte
  tag : Byte
  params : List Byte
deriving DecidableEq, Repr

/-- What MP holds: the exchange state, the bytes of the frame received so far, the frame that awaits, the bytes of the
response buffer not yet shifted out, the byte on SDO with `none` for high impedance; and, the model's own field, the
answer of the last execution, whether or not an exchange was there to carry it. -/
structure ManagementPort where
  exchange : Exchange
  received : List Byte
  awaiting : Option Frame
  response : List Byte
  sdo : Option Byte
  answer : Option Answer
deriving DecidableEq, Repr

/-! ## Pins and outputs -/

/-- The levels of the input pins, true for high: RST_N, PORT_RST_N, PWRWARN as last sampled by the timebase, CS_N
(Table 0.8.1, R184). -/
structure Pins where
  rstN : Bool
  portRstN : Bool
  pwrwarn : Bool
  csN : Bool
deriving DecidableEq, Repr

/-- A response returned upstream (R136). -/
structure UpResponse where
  stream : Stream
  outcome : UpOutcome
  data : List Byte
  exclusiveResult : Option Bool
deriving DecidableEq, Repr

/-- What the two memory-side ports have put out since power-on reset, oldest first: the model's own record of the
responses returned upstream (R136) and of the requests presented to the memory controller with their tags (R150). -/
structure Outputs where
  returned : List UpResponse
  presented : List (Nat × Request)
deriving DecidableEq, Repr

/-- The state of the bridge. -/
structure State where
  pins : Pins
  timestamp : Timestamp
  wu : WindowUnit
  ju : JournalUnit
  ec : EpochControl
  ce : CopyEngine
  rw : RingWriter
  dp : DownstreamPort
  fq : FaultQueue
  au : AlertUnit
  tm : TrafficMonitor
  up : UpstreamPort
  mp : ManagementPort
  out : Outputs
  pending : List Instr
deriving DecidableEq, Repr

/-- Why a step stops with a fault: never. The manual states an effect for every command and event, so this type has no
constructor; an access fault of chapter 9 is a record in the Fault Queue and stops nothing (safe: no stop is invented). -/
inductive Fault where
deriving DecidableEq, Repr

/-- Why a step is refused. -/
inductive Refusal where
  /-- Raised by `exec` alone, for a row of the opcode table that has no meaning yet (safe: nothing follows from it). No arm
  raises it now. -/
  | notModelled (mnemonic : String)
deriving DecidableEq, Repr

/-- WU after power-on reset (R1, R3, R5, R13). -/
def resetWindowUnit : WindowUnit :=
  { mode := .transparent, domainMap := Vector.replicate 64 none, windows := Vector.replicate 64 none,
    memoryLimit := Config.granuleSpace }

/-- RW after power-on reset (R97, R114). -/
def resetRingWriter : RingWriter :=
  { place := none, lowThreshold := 0, reserve := 0, filled := 0, release := 0, position := 0, slots := [],
    account := emptyAccount, pendingEnd := none }

/-- DP after power-on reset (R157). -/
def resetDownstreamPort : DownstreamPort :=
  { urgent := [], passThrough := [], background := [], copyShare := 4, shareCounter := 0, responseLimit := 250, tags := [] }

/-- The values after power-on reset that each chapter states, with the input pins and the waiting commands given. -/
def powerOn (pins : Pins) (port : PortState) (pending : List Instr) : State :=
  { pins := pins
    timestamp := 0
    wu := resetWindowUnit
    ju := { bankA := freeBank, bankB := freeBank }
    ec := { journal := .off, powerCutPending := false, transparentWrites := 0, log := [] }
    ce := { holdQueue := [], holdLimit := 2000, copies := [] }
    rw := resetRingWriter
    dp := resetDownstreamPort
    fq := { records := [], lost := 0, nextSeq := 0 }
    au := { pending := 0, enable := 0 }
    tm := { counters := Vector.replicate 8 resetCounter }
    up := { portState := port, tracker := [], staging := none }
    mp := { exchange := .idle, received := [], awaiting := none, response := [], sdo := none, answer := none }
    out := { returned := [], presented := [] }
    pending := pending }

/-- The bridge right after the release of RST_N with PORT_RST_N and CS_N high and PWRWARN low, nothing waiting
(R128, R143). DESIGN CHOICE: the levels of the three input pins, notes/assumptions/2.md. -/
def State.reset : State :=
  powerOn { rstN := true, portRstN := true, pwrwarn := false, csN := true } .accepting []

end Sys2Proof.Machine
end

