-- ==== Sys2Proof/Machine/Operands.lean ====
section
/-! DEFINITION. The operand and response codes of the management port: the named values of Table 12.1.4 in both
directions, the statuses of Table 12.1.3, the response frame of Table 12.1.2, and the CRC-32 and the record headers
of section 12.2. -/

namespace Sys2Proof.Machine

/-! ## Named values as parameters: none for a code not listed (R187) -/

/-- Bridge Mode from its code. -/
def modeOf : Nat → Option Mode
  | 0 => some .transparent
  | 1 => some .guarded
  | _ => none

/-- Growth from its code. -/
def growthOf : Nat → Option Growth
  | 0 => some .up
  | 1 => some .down
  | _ => none

/-- Key from its code. -/
def keyOf : Nat → Option Key
  | 0 => some .none
  | 1 => some .read
  | 2 => some .readWrite
  | _ => none

/-- NO or YES, disabled or enabled. -/
def flagOf : Nat → Option Bool
  | 0 => some false
  | 1 => some true
  | _ => none

/-- Bank from its code. -/
def bankOf : Nat → Option BankId
  | 0 => some .a
  | 1 => some .b
  | _ => none

/-- Scope from its code. -/
def scopeOf : Nat → Option Scope
  | 0 => some .freeRunning
  | 1 => some .epoch
  | _ => none

/-- A number below a bound, or 255 for the absent choice (UNMAPPED, ANY): the inner option is that choice. -/
def numberOr255 (bound n : Nat) : Option (Option Nat) :=
  if n < bound then some (some n) else if n = 255 then some none else none

/-- A direction filter from its code; the inner `none` is ANY. -/
def directionFilterOf : Nat → Option (Option Direction)
  | 0 => some (some .read)
  | 1 => some (some .write)
  | 2 => some none
  | _ => none

/-- A counter event from its code. -/
def counterEventOf : Nat → Option CounterEvent
  | 0 => some .accepted
  | 1 => some .refused
  | 2 => some .bytes
  | 3 => some .held
  | 4 => some .holdOccupancy
  | 5 => some .trackerOccupancy
  | 6 => some .marked
  | 7 => some .spilled
  | 8 => some .copies
  | 9 => some .urgentCopies
  | 10 => some .ringWait
  | 11 => some .dsTimeouts
  | _ => none

/-! ## Named values as codes (Tables 12.1.3 and 12.1.4) -/

/-- The code of a status (Table 12.1.3). -/
def Status.code : Status → Nat
  | .ok => 0x00
  | .badFrame => 0x01
  | .unknownCommand => 0x02
  | .badParam => 0x03
  | .wrongMode => 0x04
  | .busy => 0x05
  | .notRecording => 0x06
  | .noRing => 0x07
  | .badEpoch => 0x08
  | .epochLimit => 0x09
  | .overlap => 0x0A
  | .ringConflict => 0x0B
  | .range => 0x0C
  | .notIdle => 0x0D
  | .badCount => 0x0E
  | .inUse => 0x0F
  | .empty => 0x10

/-- The code of a Bridge Mode. -/
def Mode.code : Mode → Nat
  | .transparent => 0
  | .guarded => 1

/-- The code of a growth. -/
def Growth.code : Growth → Nat
  | .up => 0
  | .down => 1

/-- The code of a key. -/
def Key.code : Key → Nat
  | .none => 0
  | .read => 1
  | .readWrite => 2

/-- The code of a bank. -/
def BankId.code : BankId → Nat
  | .a => 0
  | .b => 1

/-- The code of a direction. -/
def directionCode : Direction → Nat
  | .read => 0
  | .write => 1

/-- The code of a journal state. -/
def Journal.code : Journal → Nat
  | .off => 0
  | .recording => 1

/-- The code of a port state. -/
def PortState.code : PortState → Nat
  | .accepting => 0
  | .inReset => 1
  | .resetDrain => 2

/-- The code of a bank state. -/
def BankState.code : BankState → Nat
  | .free => 0
  | .opened => 1
  | .settling => 2
  | .draining => 3
  | .closing => 4

/-- The code of an entry state. -/
def EntryState.code : EntryState → Nat
  | .pending => 0
  | .copying => 1
  | .copied => 2
  | .skipped => 3

/-- The code of an epoch status. -/
def EpochStatus.code : EpochStatus → Nat
  | .complete => 0
  | .spilled => 1
  | .damaged => 2
  | .abandoned => 3

/-- The code of a damage reason, 0 for absent. -/
def damageCode : Option DamageReason → Nat
  | none => 0
  | some .holdTimeout => 1
  | some .copyTimeout => 2
  | some .copyError => 3
  | some .recordWrite => 4
  | some .abandon => 5

/-- The code of a fault kind. -/
def FaultKind.code : FaultKind → Nat
  | .malformed => 0
  | .noDomain => 1
  | .noWindow => 2
  | .keyDenied => 3
  | .downstreamError => 4
  | .downstreamTimeout => 5
  | .lateResponse => 6
  | .copyFailed => 7

/-- The code of a counter event. -/
def CounterEvent.code : CounterEvent → Nat
  | .accepted => 0
  | .refused => 1
  | .bytes => 2
  | .held => 3
  | .holdOccupancy => 4
  | .trackerOccupancy => 5
  | .marked => 6
  | .spilled => 7
  | .copies => 8
  | .urgentCopies => 9
  | .ringWait => 10
  | .dsTimeouts => 11

/-- The code of a scope. -/
def Scope.code : Scope → Nat
  | .freeRunning => 0
  | .epoch => 1

/-- A domain or window that may be absent, UNMAPPED or ANY: 255 then. -/
def codeOr255 (n : Option Nat) : Nat := n.getD 255

/-- A direction filter's code. -/
def directionFilterCode : Option Direction → Nat
  | none => 2
  | some d => directionCode d

/-- Flag bits of a byte, bit 0 first. -/
def bits : List Bool → Nat
  | [] => 0
  | b :: bs => b.toNat + 2 * bits bs

/-- A Ring Sequence in 4 bytes, 0 when absent. -/
def seqBytes (q : Option Seq) : List Byte := beBytes 4 ((q.map BitVec.toNat).getD 0)

/-- A number that may be absent, written 0 then, in n bytes. -/
def optBytes (n : Nat) (v : Option Nat) : List Byte := beBytes n (v.getD 0)

/-- A bank's state and epoch, 0 when absent, in 5 bytes (Table 12.1.6). -/
def bankBytes (b : Bank) : List Byte := beBytes 1 b.state.code ++ optBytes 4 b.epoch

/-! ## Frames -/

/-- The response frame of a status, a tag and data (Table 12.1.2). -/
def responseFrame (tag : Byte) (ans : Answer) : List Byte :=
  let body := responseStart :: BitVec.ofNat 8 ans.status.code :: tag :: BitVec.ofNat 8 ans.data.length :: ans.data
  body ++ [crc8 body]

/-! ## Ring records (section 12.2, R189) -/

/-- One bit of the reflected CRC-32 with polynomial 0x04C11DB7. -/
def crc32Bit (c : BitVec 32) : BitVec 32 := if c.getLsbD 0 then (c >>> 1) ^^^ 0xEDB88320#32 else c >>> 1

/-- CRC-32 over bytes: input and output reflected, initial value and final XOR 0xFFFFFFFF (R189). -/
def crc32 (bs : List Byte) : BitVec 32 :=
  ~~~ (bs.foldl (fun c b => (List.range 8).foldl (fun c _ => crc32Bit c) (c ^^^ b.setWidth 32)) 0xFFFFFFFF#32)

/-- Sixty bytes of a header followed by their header check (R188). -/
def sealHeader (body : List Byte) : List Byte := body ++ beBytes 4 (crc32 body).toNat

/-- The format tag, kind, flags, sequence and epoch that every header begins with (Table 12.2.1). -/
def headerStart (kind flags : Nat) (seq : Seq) (epoch : Nat) : List Byte :=
  [0x4B#8, 0x52#8] ++ beBytes 1 kind ++ beBytes 1 flags ++ beBytes 4 seq.toNat ++ beBytes 4 epoch

/-- The header of a DATA record (Table 12.2.1). -/
def dataHeader (seq : Seq) (epoch granule : Nat) (urgent : Bool) (crc : BitVec 32) : List Byte :=
  sealHeader (headerStart 1 (bits [urgent]) seq epoch ++ beBytes 4 granule ++ beBytes 4 crc.toNat ++ List.replicate 40 0#8)

/-- The header of a VOID record (Table 12.2.1). -/
def voidHeader (seq : Seq) (epoch granule : Nat) : List Byte :=
  sealHeader (headerStart 2 0 seq epoch ++ beBytes 4 granule ++ List.replicate 44 0#8)

/-- The status of an epoch from its damage reason and spill list (R66). -/
def epochStatus (damage : Option DamageReason) (spill : List SpillEntry) : EpochStatus :=
  match damage with
  | none => if spill.isEmpty then .complete else .spilled
  | some .abandon => .abandoned
  | some .holdTimeout | some .copyTimeout | some .copyError | some .recordWrite => .damaged

/-- The header of an END record, composed from the cut bank and the epoch account (R108, Table 12.2.1). -/
def endHeader (seq : Seq) (b : Bank) (acc : EpochAccount) : List Byte :=
  sealHeader (headerStart 3 (bits [b.power, b.portReset, acc.firstData.isSome]) seq (b.epoch.getD 0) ++
    beBytes 1 (epochStatus b.damage b.spill).code ++ beBytes 1 (damageCode b.damage) ++ beBytes 1 b.spill.length ++ [0#8] ++
    beBytes 2 b.listed ++ beBytes 2 b.copied ++ beBytes 2 b.skipped ++ beBytes 2 b.urgent ++
    seqBytes acc.firstData ++ beBytes 2 acc.dataSlots ++ List.replicate 30 0#8)

/-- An END spill entry of 16 bytes (Table 12.2.2). -/
def spillRecord (e : SpillEntry) : List Byte :=
  beBytes 1 e.window ++ List.replicate 3 0#8 ++ beBytes 4 e.low ++ beBytes 4 e.high ++ List.replicate 4 0#8

/-- The number of 256-byte spill writes of an END record: 16 entries each, rounded up (R108). -/
def spillWrites (n : Nat) : Nat := (n + 15) / 16

/-- The bytes of spill write k, filled with 0 after the last entry (R108). -/
def spillBlock (spill : List SpillEntry) (k : Nat) : List Byte :=
  let entries := ((spill.drop (16 * k)).take 16).flatMap spillRecord
  entries ++ List.replicate (Config.burstBytes - entries.length) 0#8

end Sys2Proof.Machine
end

