-- ==== Sys2Proof/Machine/Flags.lean ====
section
/-! DEFINITION. What every block reports to: the alert causes and ALERT_N (chapter 6), the counters of the Traffic
Monitor (chapter 10), the Fault Queue (chapter 9). -/

namespace Sys2Proof.Machine

/-! ## Alert causes -/

/-- The bit of a cause in a set of causes (Table 12.1.4). -/
def Cause.bit : Cause → Byte
  | .epochClosed => 0x01#8
  | .epochDamaged => 0x02#8
  | .spill => 0x04#8
  | .faultQueued => 0x08#8
  | .faultLost => 0x10#8
  | .ringLow => 0x20#8
  | .counterWrap => 0x40#8
  | .powerCut => 0x80#8

/-- Raising a cause adds it to the pending set (R119). -/
def raiseCause (c : Cause) (s : State) : State :=
  { s with au := { s.au with pending := s.au.pending ||| c.bit } }

/-- ALERT_N is driven low: the intersection of the two sets is not empty and RST_N is high (R121). -/
def alertDriven (s : State) : Bool := s.pins.rstN && decide (s.au.pending &&& s.au.enable ≠ 0)

/-! ## Counters -/

/-- A report to the Traffic Monitor (Table 10.2.1). -/
structure Report where
  event : CounterEvent
  domain : Option Nat := none
  window : Option Nat := none
  direction : Option Direction := none

/-- The domain filter applies to the event (Table 10.2.1). -/
def CounterEvent.usesDomain : CounterEvent → Bool
  | .accepted | .refused | .bytes | .held | .marked | .dsTimeouts => true
  | .holdOccupancy | .trackerOccupancy | .spilled | .copies | .urgentCopies | .ringWait => false

/-- The window filter applies to the event: to the same events as the domain filter (Table 10.2.1). -/
def CounterEvent.usesWindow : CounterEvent → Bool
  | .accepted | .refused | .bytes | .held | .marked | .dsTimeouts => true
  | .holdOccupancy | .trackerOccupancy | .spilled | .copies | .urgentCopies | .ringWait => false

/-- The direction filter judges a report of the event. For TRACKER_OCCUPANCY it chooses the amount instead (R169). -/
def CounterEvent.usesDirection : CounterEvent → Bool
  | .accepted | .refused | .bytes | .dsTimeouts => true
  | .held | .holdOccupancy | .trackerOccupancy | .marked | .spilled | .copies | .urgentCopies | .ringWait => false

/-- A filter field matches a report: it does not apply, or is ANY, or the report carries that value (R167). -/
def fieldMatches {α : Type} [DecidableEq α] (applies : Bool) (filter reported : Option α) : Bool :=
  !applies || filter.isNone || decide (filter = reported)

/-- The counter takes the report (R167). -/
def Counter.takes (c : Counter) (r : Report) : Bool :=
  c.enabled && decide (c.event = r.event) && fieldMatches r.event.usesDomain c.domain r.domain &&
    fieldMatches r.event.usesWindow c.window r.window && fieldMatches r.event.usesDirection c.direction r.direction

/-- The amount would take the counter past 2^48 − 1 (R170). -/
def Counter.wraps (c : Counter) (n : Nat) : Bool := decide (Config.counterSpace ≤ c.value + n)

/-- Adding an amount to a counter, with the wrap (R167, R170). -/
def Counter.add (c : Counter) (n : Nat) : Counter :=
  if c.wraps n then { c with value := c.value + n - Config.counterSpace, wrap := true } else { c with value := c.value + n }

/-- A report whose amount may depend on the counter; COUNTER_WRAP is raised when a counter wraps (R167, R170). -/
def reportBy (r : Report) (amount : Counter → Nat) (s : State) : State :=
  let wrapped := s.tm.counters.toList.any fun c => c.takes r && c.wraps (amount c)
  let s1 := { s with tm := { counters := s.tm.counters.map fun c => if c.takes r then c.add (amount c) else c } }
  if wrapped then raiseCause .counterWrap s1 else s1

/-- A report of a fixed amount. -/
def report (r : Report) (amount : Nat) (s : State) : State := reportBy r (fun _ => amount) s

/-- The snapshot of a counter at the cut of an epoch (R171). -/
def Counter.snapshot (epoch : Option Nat) (c : Counter) : Counter :=
  if c.enabled && decide (c.scope = .epoch) then
    { c with snapValue := c.value, snapWrap := c.wrap, snapEpoch := epoch, value := 0, wrap := false }
  else c

/-- Every enabled EPOCH-scope counter takes its snapshot (R171). -/
def snapshotCounters (epoch : Option Nat) (s : State) : State :=
  { s with tm := { counters := s.tm.counters.map (Counter.snapshot epoch) } }

/-! ## Faults -/

/-- A fault reported to the Fault Queue: it takes the next fault sequence; with fewer than 8 records held it is appended
and FAULT_QUEUED is raised, else it is lost, the lost count rises to 255 at most and FAULT_LOST is raised
(R160, R161). -/
def reportFault (kind : FaultKind) (fields : FaultFields) (s : State) : State :=
  let next := s.fq.nextSeq + 1
  if s.fq.records.length < Config.faultRecords then
    let r : FaultRecord := { seq := s.fq.nextSeq, kind := kind, fields := fields, timestamp := s.timestamp }
    raiseCause .faultQueued { s with fq := { s.fq with records := s.fq.records ++ [r], nextSeq := next } }
  else
    raiseCause .faultLost { s with fq := { s.fq with lost := min 255 (s.fq.lost + 1), nextSeq := next } }

end Sys2Proof.Machine
end

