-- ==== Sys2Proof/Machine/Lookup.lean ====
section
/-! DEFINITION. Windows and lookup (chapter 1): ranges, relocation, the four lookup checks, and the checks of the table
commands. -/

namespace Sys2Proof.Machine

/-- The size of a window in bytes (R6). -/
def Window.bytes (w : Window) : Nat := w.extent * Config.granuleBytes

/-- The first host address of a window (Table 1.3.2). -/
def Window.hostLow (w : Window) : Nat :=
  match w.growth with
  | .up => w.anchor
  | .down => w.anchor - w.bytes

/-- The first host address above a window (Table 1.3.2). -/
def Window.hostEnd (w : Window) : Nat :=
  match w.growth with
  | .up => w.anchor + w.bytes
  | .down => w.anchor

/-- The first memory address of a window (Table 1.3.2). -/
def Window.memLow (w : Window) : Nat :=
  match w.growth with
  | .up => w.memBase
  | .down => w.memBase - w.bytes

/-- The first memory address above a window (Table 1.3.2). -/
def Window.memEnd (w : Window) : Nat :=
  match w.growth with
  | .up => w.memBase + w.bytes
  | .down => w.memBase

/-- The host range contains the address. -/
def Window.contains (w : Window) (host : Nat) : Bool := decide (w.hostLow ≤ host) && decide (host < w.hostEnd)

/-- The memory address of a host address inside the window (R7). -/
def Window.relocate (w : Window) (host : Nat) : Nat :=
  match w.growth with
  | .up => w.memBase + (host - w.anchor)
  | .down => w.memBase - (w.anchor - host)

/-- Ranges [a, b) and [c, d) intersect (R17). -/
def intersects (a b c d : Nat) : Bool := decide (a < d) && decide (c < b)

/-- The granule number of a memory address (R7). -/
def granuleOf (address : Nat) : Nat := address / Config.granuleBytes

/-! ## Lookup -/

/-- The MALFORMED check (R8). -/
def malformed (t : Txn) : Bool :=
  decide (t.length = 0) || decide (256 < t.length) || decide (Config.granuleBytes < t.host % Config.granuleBytes + t.length) ||
    decide (t.beats ≠ t.length)

/-- The key grants the direction (Table 1.4.2). -/
def Key.grants : Key → Direction → Bool
  | .none, _ => false
  | .read, .read => true
  | .read, .write => false
  | .readWrite, _ => true

/-- What a lookup records in the tracker entry (Table 1.4.1), and whether the window is journaled. -/
structure LookupResult where
  refusal : Option FaultKind
  domain : Option Nat
  window : Option Nat
  memory : Option Nat
  journaled : Bool
deriving DecidableEq, Repr

/-- The number of the ACTIVE window of the domain that contains the host address (R10). -/
def findWindow (wu : WindowUnit) (domain host : Nat) : Option Nat :=
  wu.windows.toList.findIdx? fun w =>
    match w with
    | some w => decide (w.domain = domain) && w.contains host
    | none => false

/-- The ACTIVE window of a number. -/
def windowAt (wu : WindowUnit) (n : Nat) : Option Window := (wu.windows[n]?).join

/-- The Domain Map entry of an initiator (R3). -/
def domainOf (wu : WindowUnit) (initiator : Nat) : Option Nat := (wu.domainMap[initiator]?).join

/-- The lookup of a transaction (R1, R8 to R11). -/
def lookup (wu : WindowUnit) (dir : Direction) (t : Txn) : LookupResult :=
  if malformed t then { refusal := some .malformed, domain := none, window := none, memory := none, journaled := false }
  else
    match wu.mode with
    | .transparent => { refusal := none, domain := none, window := none, memory := some t.host, journaled := false }
    | .guarded =>
      match domainOf wu t.initiator with
      | none => { refusal := some .noDomain, domain := none, window := none, memory := none, journaled := false }
      | some d =>
        match findWindow wu d t.host with
        | none => { refusal := some .noWindow, domain := some d, window := none, memory := none, journaled := false }
        | some n =>
          match windowAt wu n with
          | none => { refusal := some .noWindow, domain := some d, window := none, memory := none, journaled := false }
          | some w =>
            { refusal := if w.key.grants dir then none else some .keyDenied
              domain := some d, window := some n, memory := some (w.relocate t.host), journaled := w.journaled }

/-! ## Checks of the table commands -/

/-- The window's ranges fit the host space and the Memory Limit (R16). -/
def rangeFits (limit : Nat) (w : Window) : Bool :=
  match w.growth with
  | .up => decide (w.anchor + w.bytes ≤ Config.addressSpace) && decide (w.memBase + w.bytes ≤ limit * Config.granuleBytes)
  | .down =>
    decide (w.bytes ≤ w.anchor) && decide (w.bytes ≤ w.memBase) && decide (w.memBase ≤ limit * Config.granuleBytes)

/-- The window as number n would overlap another ACTIVE window of its domain (R17). -/
def overlapsOther (wu : WindowUnit) (n : Nat) (w : Window) : Bool :=
  (List.range 64).any fun m =>
    decide (m ≠ n) &&
      match windowAt wu m with
      | some v => decide (v.domain = w.domain) && intersects w.hostLow w.hostEnd v.hostLow v.hostEnd
      | none => false

/-- The first address above the ring region (R97). -/
def RingPlace.regionEnd (p : RingPlace) : Nat := p.base + p.capacity * Config.slotBytes

/-- A READ_WRITE window's memory range intersects the ring region (R18). -/
def conflictsWithPlace (p : RingPlace) (w : Window) : Bool :=
  decide (w.key = .readWrite) && intersects w.memLow w.memEnd p.base p.regionEnd

/-- The RING_CONFLICT check of a window fails (R18). -/
def ringConflict (place : Option RingPlace) (w : Window) : Bool :=
  match place with
  | some p => conflictsWithPlace p w
  | none => false

/-- Some ACTIVE READ_WRITE window intersects a ring region (check 4 of R98). -/
def placeConflicts (wu : WindowUnit) (p : RingPlace) : Bool :=
  wu.windows.toList.any fun w =>
    match w with
    | some w => conflictsWithPlace p w
    | none => false

/-- Some window is ACTIVE (R13). -/
def anyActive (wu : WindowUnit) : Bool := wu.windows.toList.any Option.isSome

/-- Replacing one Window Table entry. -/
def setWindow (n : Nat) (w : Option Window) (s : State) : State :=
  { s with wu := { s.wu with windows := s.wu.windows.setIfInBounds n w } }

end Sys2Proof.Machine
end

