-- ==== Sys2Proof/Machine/Ops.lean ====
section
/-! DEFINITION. The shared operations over the bridge's tables and queues: banks, tracker, class queues, slots. Each is
the one place where its table is read or written. -/

namespace Sys2Proof.Machine

/-! ## Banks -/

/-- The bank of a name. -/
def bank (s : State) : BankId → Bank
  | .a => s.ju.bankA
  | .b => s.ju.bankB

/-- Replacing a bank. -/
def setBank (i : BankId) (b : Bank) (s : State) : State :=
  match i with
  | .a => { s with ju := { s.ju with bankA := b } }
  | .b => { s with ju := { s.ju with bankB := b } }

/-- The other bank's name. -/
def BankId.other : BankId → BankId
  | .a => .b
  | .b => .a

/-- The first bank, A before B, of which p holds. -/
def findBank (p : Bank → Bool) (s : State) : Option BankId :=
  if p s.ju.bankA then some .a else if p s.ju.bankB then some .b else none

/-- The OPEN bank (R27). -/
def openBank (s : State) : Option BankId := findBank (fun b => decide (b.state = .opened)) s

/-- SETTLING, DRAINING or CLOSING (Table 2.2.1). -/
def BankState.isCut : BankState → Bool
  | .settling | .draining | .closing => true
  | .free | .opened => false

/-- SETTLING or DRAINING: consulted by the hold check and reached by a damage (Table 2.2.1, R31). -/
def BankState.isCopyable : BankState → Bool
  | .settling | .draining => true
  | .free | .opened | .closing => false

/-- The cut bank. -/
def cutBank (s : State) : Option BankId := findBank (fun b => b.state.isCut) s

/-- The SETTLING or DRAINING bank. -/
def holdBank (s : State) : Option BankId := findBank (fun b => b.state.isCopyable) s

/-- The DRAINING bank. -/
def drainingBank (s : State) : Option BankId := findBank (fun b => decide (b.state = .draining)) s

/-- The bank that holds an epoch. -/
def bankOfEpoch (epoch : Nat) (s : State) : Option BankId := findBank (fun b => decide (b.epoch = some epoch)) s

/-- The entry of a granule in a dirty list. -/
def Bank.entryOf (b : Bank) (granule : Nat) : Option DirtyEntry := b.dirty.find? fun d => decide (d.granule = granule)

/-- PENDING or COPYING (test 1 of Table 4.2.1). -/
def EntryState.isWaiting : EntryState → Bool
  | .pending | .copying => true
  | .copied | .skipped => false

/-- No entry is PENDING or COPYING (R30). -/
def Bank.allResolved (b : Bank) : Bool := b.dirty.all fun d => !d.state.isWaiting

/-- Changing the held-write count of a granule's entry (R43). -/
def Bank.changeHeld (f : Nat → Nat) (granule : Nat) (b : Bank) : Bank :=
  { b with dirty := b.dirty.map fun d => if d.granule = granule then { d with held := f d.held } else d }

/-- Changing the state of the entry at a list index (R42). -/
def Bank.setEntry (index : Nat) (st : EntryState) (b : Bank) : Bank :=
  { b with dirty := b.dirty.modify index fun d => { d with state := st } }

/-! ## Tracker -/

/-- The outstanding tracker entry of a number. -/
def findEntry (n : Nat) (s : State) : Option TrackerEntry := s.up.tracker.find? fun e => decide (e.number = n)

/-- Changing a tracker entry. -/
def changeEntry (n : Nat) (f : TrackerEntry → TrackerEntry) (s : State) : State :=
  { s with up := { s.up with tracker := s.up.tracker.map fun e => if e.number = n then f e else e } }

/-- The lowest FREE tracker entry. DESIGN CHOICE: the manual says "a FREE tracker entry", notes/assumptions/8.md. -/
def freeEntry (s : State) : Option Nat :=
  (List.range Config.trackerEntries).find? fun n => s.up.tracker.all fun e => decide (e.number ≠ n)

/-- In RESET_DRAIN the port becomes ACCEPTING when the tracker is empty (R128). -/
def endResetDrain (s : State) : State :=
  if s.up.portState = .resetDrain ∧ s.up.tracker = [] then { s with up := { s.up with portState := .accepting } } else s

/-- A tracker entry becomes FREE. -/
def dropEntry (n : Nat) (s : State) : State :=
  endResetDrain { s with up := { s.up with tracker := s.up.tracker.filter fun e => decide (e.number ≠ n) } }

/-! ## Returning responses (R136) -/

/-- The walk along a stream: ANSWERED entries leave until the first entry of the stream that is not ANSWERED. Gives the
entries that stay and those returned, each in acceptance order. -/
def splitAnswered (str : Stream) : Bool → List TrackerEntry → List TrackerEntry × List TrackerEntry
  | _, [] => ([], [])
  | blocked, e :: es =>
    if e.stream = str then
      if !blocked && decide (e.phase = .answered) then
        let r := splitAnswered str blocked es
        (r.1, e :: r.2)
      else
        let r := splitAnswered str true es
        (e :: r.1, r.2)
    else
      let r := splitAnswered str blocked es
      (e :: r.1, r.2)

/-- One response leaves: it is put out and reported as REFUSED, or as BYTES of its length (R136). -/
def returnResponse (e : TrackerEntry) (s : State) : State :=
  let outcome := e.outcome.getD .refused
  let resp : UpResponse :=
    { stream := e.stream, outcome := outcome, data := e.readData, exclusiveResult := e.exclusiveResult }
  let s1 := { s with out := { s.out with returned := s.out.returned ++ [resp] } }
  match outcome with
  | .refused =>
    report { event := .refused, domain := e.domain, window := e.window, direction := some e.stream.direction } 1 s1
  | .okay =>
    report { event := .bytes, domain := e.domain, window := e.window, direction := some e.stream.direction } e.length s1

/-- Every response of a stream that may leave leaves, in acceptance order (R136). -/
def returnStream (str : Stream) (s : State) : State :=
  let r := splitAnswered str false s.up.tracker
  endResetDrain (r.2.foldl (fun s e => returnResponse e s) { s with up := { s.up with tracker := r.1 } })

/-! ## Class queues (R145) -/

/-- The direction of a request (Table 8.1.1). -/
def Source.direction : Source → Direction
  | .passRead _ | .copyRead _ _ => .read
  | .passWrite _ | .dataWrite _ _ | .dataHeader _ | .voidHeader _ | .endSpill _ _ | .endHeader _ => .write

/-- The pass-through request of a tracker entry, with data, strobes and marker as accepted (R144). -/
def passRequest (e : TrackerEntry) : Request :=
  { source := match e.stream.direction with
      | .read => .passRead e.number
      | .write => .passWrite e.number
    address := e.memory.getD 0
    size := e.length
    data := e.data
    strobes := e.strobes
    exclusive := e.exclusive
    initiator := some e.stream.initiator
    domain := e.domain
    window := e.window }

/-- A request joins the pass-through queue. -/
def pushPass (r : Request) (s : State) : State :=
  { s with dp := { s.dp with passThrough := s.dp.passThrough ++ [r] } }

/-- Requests join the urgent queue. -/
def pushUrgent (rs : List Request) (s : State) : State := { s with dp := { s.dp with urgent := s.dp.urgent ++ rs } }

/-- Requests join the background queue. -/
def pushBackground (rs : List Request) (s : State) : State :=
  { s with dp := { s.dp with background := s.dp.background ++ rs } }

/-- The tracker entry is handed to the arbiter and becomes ISSUED with its held flag clear (R78, R131). -/
def issueEntry (n : Nat) (s : State) : State :=
  match findEntry n s with
  | none => s
  | some e => pushPass (passRequest e) (changeEntry n (fun e => { e with phase := .issued, held := false }) s)

/-- The Copy Share counter is 0 after a change that leaves the background queue empty (R147). -/
def clearShareIfIdle (s : State) : State :=
  if s.dp.background.isEmpty then { s with dp := { s.dp with shareCounter := 0 } } else s

/-- The request is a read of the copy. -/
def Request.isReadOf (copy : Seq) (r : Request) : Bool :=
  match r.source with
  | .copyRead c _ => decide (c = copy)
  | _ => false

/-- The ungranted reads of a copy move from background to the end of urgent, in order (R84, R145). -/
def promoteReads (copy : Seq) (s : State) : State :=
  let moved := s.dp.background.filter (Request.isReadOf copy)
  let rest := s.dp.background.filter fun r => !r.isReadOf copy
  clearShareIfIdle { s with dp := { s.dp with background := rest, urgent := s.dp.urgent ++ moved } }

/-- The number of a copy's reads that wait in a class queue. -/
def waitingReads (copy : Seq) (s : State) : Nat :=
  (s.dp.urgent.filter (Request.isReadOf copy)).length + (s.dp.background.filter (Request.isReadOf copy)).length

/-- The ungranted reads of every copy in flight leave their queues (R90, R145). When the withdrawal leaves the background queue
empty, the Copy Share counter is 0 from then on, although a VOID or END write of the same event may join the queue after it.
DESIGN CHOICE: R147 can be read by the event or by the change of the queue, notes/assumptions/28.md. -/
def withdrawReads (copies : List CopyOp) (s : State) : State :=
  let stays : Request → Bool := fun r => copies.all fun c => !r.isReadOf c.seq
  clearShareIfIdle { s with dp := { s.dp with urgent := s.dp.urgent.filter stays, background := s.dp.background.filter stays } }

/-! ## The ring (chapter 5) -/

/-- The free slot count, 0 while the ring is not configured (R100, R113). -/
def freeSlots (rw : RingWriter) : Nat :=
  match rw.place with
  | none => 0
  | some p => p.capacity - (rw.reserve - rw.release).toNat

/-- The free slot count is below a threshold above 0; an unconfigured ring counts as not below (R112). -/
def belowThreshold (rw : RingWriter) : Bool := rw.place.isSome && decide (freeSlots rw < rw.lowThreshold)

/-- RING_LOW is raised in an event after which the count is below, when before it the count was not (R112). -/
def raiseRingLow (before after : State) : State :=
  if !belowThreshold before.rw && belowThreshold after.rw then raiseCause .ringLow after else after

/-- The next slot is reserved: it takes the Ring Sequence and the next position, and joins the slot table RESERVED
(R100 to R103, R107). -/
def reserveSlot (use : SlotUse) (s : State) : State :=
  let slot : Slot := { seq := s.rw.reserve, position := s.rw.position, use := use, progress := .reserved, record := none }
  let capacity := (s.rw.place.map RingPlace.capacity).getD 1
  { s with rw := { s.rw with
    reserve := s.rw.reserve + 1, position := (s.rw.position + 1) % capacity, slots := s.rw.slots ++ [slot] } }

/-- The slot table entry of a sequence. -/
def findSlot (q : Seq) (s : State) : Option Slot := s.rw.slots.find? fun x => decide (x.seq = q)

/-- Changing a slot table entry. -/
def changeSlot (q : Seq) (f : Slot → Slot) (s : State) : State :=
  { s with rw := { s.rw with slots := s.rw.slots.map fun x => if x.seq = q then f x else x } }

/-- A write of a record part at an offset of a slot: every strobe on, marker clear (R97, R144). -/
def recordRequest (s : State) (position offset : Nat) (source : Source) (data : List Byte) (size : Nat) : Request :=
  { source := source
    address := (s.rw.place.map RingPlace.base).getD 0 + position * Config.slotBytes + offset
    size := size
    data := data
    strobes := List.replicate size true
    exclusive := false
    initiator := none
    domain := none
    window := none }

/-- The offset of data write or spill write k of a slot (R97). -/
def areaOffset (k : Nat) : Nat := Config.headerBytes + k * Config.burstBytes

/-- The header write of a slot, of the kind given by its record (R89, R105, R108). -/
def headerRequest (s : State) (x : Slot) (w : RecordWrite) : Request :=
  let source : Source :=
    match w.kind with
    | .data => .dataHeader x.seq
    | .void => .voidHeader x.seq
    | .ending => .endHeader x.seq
  recordRequest s x.position 0 source w.header Config.headerBytes

/-- The record is handed to its slot: the entry becomes WRITING with it (R102). -/
def startRecord (q : Seq) (w : RecordWrite) (s : State) : State :=
  changeSlot q (fun x => { x with progress := .writing, record := some w }) s

end Sys2Proof.Machine
end

