-- ==== Sys2Proof/Machine/Records.lean ====
section
/-! DEFINITION. The records of the ring (sections 5.4 and 5.5): DATA, VOID and END, and the request of the END record. -/

namespace Sys2Proof.Machine

/-- A DATA record is handed over for a copy that ends COPIED: the slot becomes WRITING and the 16 data writes join the
background queue in order of offset (R89, R104). -/
def handOverData (c : CopyOp) (s : State) : State :=
  match findSlot c.seq s with
  | none => s
  | some x =>
    let header := dataHeader c.seq c.epoch c.granule c.urgent (crc32 c.data.flatten)
    let w : RecordWrite :=
      { kind := .data, granule := some c.granule, header := header, areaWrites := Config.copyReads, resolved := 0, failed := 0 }
    let writes := (List.range Config.copyReads).map fun k =>
      recordRequest s x.position (areaOffset k) (.dataWrite c.seq k) (c.data.getD k []) Config.burstBytes
    pushBackground writes (startRecord c.seq w s)

/-- A VOID record is handed over for a copy that ends SKIPPED: its one write is the header (R105). -/
def handOverVoid (c : CopyOp) (s : State) : State :=
  match findSlot c.seq s with
  | none => s
  | some x =>
    let w : RecordWrite :=
      { kind := .void, granule := some c.granule, header := voidHeader c.seq c.epoch c.granule, areaWrites := 0, resolved := 0,
        failed := 0 }
    pushBackground [headerRequest s x w] (startRecord c.seq w s)

/-- The END record is composed from the cut bank as it stands and its first writes are requested: the spill area, or the
header at once when there is no spill entry (R108). -/
def composeEnd (b : Bank) (x : Slot) (s : State) : State :=
  let n := spillWrites b.spill.length
  let w : RecordWrite :=
    { kind := .ending, granule := none, header := endHeader x.seq b s.rw.account, areaWrites := n, resolved := 0, failed := 0 }
  let writes :=
    if n = 0 then [headerRequest s x w]
    else (List.range n).map fun k =>
      recordRequest s x.position (areaOffset k) (.endSpill x.seq k) (spillBlock b.spill k) Config.burstBytes
  pushBackground writes (startRecord x.seq w s)

/-- The END record is written in the first event in which it is reserved and filled equals its sequence (R108). -/
def writeEndIfReady (s : State) : State :=
  match s.rw.account.endSeq, cutBank s with
  | some q, some i =>
    match findSlot q s with
    | some x =>
      if s.rw.filled = q ∧ x.use = .endSlot ∧ x.progress = .reserved then composeEnd (bank s i) x s else s
    | none => s
  | _, _ => s

/-- The END record takes the next slot, and is written at once when every earlier slot is filled (R107). -/
def reserveEnd (s : State) : State :=
  let q := s.rw.reserve
  let s1 := reserveSlot .endSlot s
  writeEndIfReady { s1 with rw := { s1.rw with account := { s1.rw.account with endSeq := some q } } }

/-- A cut bank that becomes CLOSING asks for its END record: reserved at once, or left as the Pending End Marker (R107). -/
def requestEnd (epoch : Option Nat) (s : State) : State :=
  let s1 :=
    if s.rw.account.epoch.isNone then { s with rw := { s.rw with account := { s.rw.account with epoch := epoch } } } else s
  if 1 ≤ freeSlots s1.rw then reserveEnd s1 else { s1 with rw := { s1.rw with pendingEnd := epoch } }

end Sys2Proof.Machine
end

