-- ==== Sys2Proof/Machine/Copying.lean ====
section
/-! DEFINITION. The Copy Engine's starts (section 4.5), and the moves of a cut bank to DRAINING and CLOSING
(R29, R30). -/

namespace Sys2Proof.Machine

/-- The granule and epoch that an OWN entry waits on. -/
def HoldEntry.waitsOn (h : HoldEntry) : Option (Nat × Nat) :=
  match h.reason with
  | .own g e _ => some (g, e)
  | .behind => none

/-- The list index of the PENDING entry of a granule. -/
def Bank.pendingIndex (b : Bank) (granule : Nat) : Option Nat :=
  b.dirty.findIdx? fun d => decide (d.granule = granule) && decide (d.state = .pending)

/-- The lowest list index whose entry is PENDING. -/
def Bank.firstPending (b : Bank) : Option Nat := b.dirty.findIdx? fun d => decide (d.state = .pending)

/-- Step 1 of the choice: the granule of the oldest OWN entry whose entry is PENDING (R83). -/
def chooseHeld (b : Bank) (queue : List HoldEntry) : Option Nat :=
  queue.findSome? fun h =>
    match h.waitsOn with
    | some (g, e) => if b.epoch = some e then b.pendingIndex g else none
    | none => none

/-- The entry to copy next with whether step 1 chose it (R83). -/
def chooseCopy (b : Bank) (queue : List HoldEntry) : Option (Nat × Bool) :=
  match chooseHeld b queue with
  | some n => some (n, true)
  | none => b.firstPending.map fun n => (n, false)

/-- Some entry of the DRAINING bank is PENDING and fewer than 4 copies are in flight: what R83 and R85 share. -/
def wantsCopy (s : State) : Bool :=
  decide (s.ce.copies.length < Config.copyOperations) &&
    match drainingBank s with
    | some i => (bank s i).firstPending.isSome
    | none => false

/-- The Copy Engine is in ring wait (R85). -/
def inRingWait (s : State) : Bool := wantsCopy s && decide (freeSlots s.rw = 0)

/-- The epoch account takes a slot reserved for a copy (R103). -/
def accountData (epoch : Option Nat) (q : Seq) (a : EpochAccount) : EpochAccount :=
  { a with epoch := if a.epoch.isNone then epoch else a.epoch
           firstData := if a.firstData.isNone then some q else a.firstData
           dataSlots := a.dataSlots + 1 }

/-- The 16 reads of a copy, in order of k, with every strobe on and the marker clear (R86, R144). -/
def copyReadRequests (granule : Nat) (q : Seq) : List Request :=
  (List.range Config.copyReads).map fun k =>
    { source := .copyRead q k, address := granule * Config.granuleBytes + k * Config.burstBytes, size := Config.burstBytes,
      data := [], strobes := List.replicate Config.burstBytes true, exclusive := false, initiator := none, domain := none,
      window := none }

/-- A copy of the entry at a list index of bank i starts: slot, entry state, operation, urgent count, reads
(R83, R86, R103). -/
def startCopy (i : BankId) (index : Nat) (byHold : Bool) (s : State) : State :=
  let b := bank s i
  match b.dirty[index]? with
  | none => s
  | some d =>
    let urgent := byHold || decide (0 < d.held)
    let q := s.rw.reserve
    let s1 := reserveSlot .dataSlot s
    let s2 := { s1 with rw := { s1.rw with account := accountData b.epoch q s1.rw.account } }
    let b1 := b.setEntry index .copying
    let s3 := setBank i { b1 with urgent := b1.urgent + urgent.toNat } s2
    let op : CopyOp :=
      { granule := d.granule, epoch := b.epoch.getD 0, index := index, seq := q, urgent := urgent,
        cls := if urgent then .urgent else .background, resolved := 0, failed := 0, abandoned := false,
        data := List.replicate Config.copyReads [] }
    let s4 := { s3 with ce := { s3.ce with copies := s3.ce.copies ++ [op] } }
    if urgent then pushUrgent (copyReadRequests d.granule q) (report { event := .urgentCopies } 1 s4)
    else pushBackground (copyReadRequests d.granule q) s4

/-- Copies start one after another while R83 allows, at most n of them. -/
def startCopiesUpTo : Nat → State → State
  | 0, s => s
  | n + 1, s =>
    if wantsCopy s && decide (1 ≤ freeSlots s.rw) then
      match drainingBank s with
      | none => s
      | some i =>
        match chooseCopy (bank s i) s.ce.holdQueue with
        | none => s
        | some (index, byHold) => startCopiesUpTo n (startCopy i index byHold s)
    else s

/-- Copies start until a condition of R83 fails; there are at most 4 positions. -/
def startCopies (s : State) : State := startCopiesUpTo Config.copyOperations s

/-- The bank becomes CLOSING and asks for its END record (R30, R107). -/
def becomeClosing (i : BankId) (s : State) : State :=
  requestEnd (bank s i).epoch (setBank i { bank s i with state := .closing } s)

/-- A DRAINING bank with no entry PENDING or COPYING becomes CLOSING (R30). -/
def closeIfResolved (i : BankId) (s : State) : State :=
  if (bank s i).state = .draining ∧ (bank s i).allResolved = true then becomeClosing i s else s

/-- A SETTLING bank whose settle count is 0 becomes DRAINING; copies start, or an empty bank becomes CLOSING at once
(R29, R30, R83). -/
def drainIfSettled (i : BankId) (s : State) : State :=
  if (bank s i).state = .settling ∧ (bank s i).settle = 0 then
    closeIfResolved i (startCopies (setBank i { bank s i with state := .draining } s))
  else s

/-- The settle count of the bank that holds an epoch falls by 1 (R35). -/
def countSettled (epoch : Nat) (s : State) : State :=
  match bankOfEpoch epoch s with
  | none => s
  | some i => setBank i { bank s i with settle := (bank s i).settle - 1 } s

/-- The bank that holds an epoch moves on if its settle count is 0 (R29). -/
def drainEpoch (epoch : Nat) (s : State) : State :=
  match bankOfEpoch epoch s with
  | none => s
  | some i => drainIfSettled i s

/-- A write that completes leaves its count: the settle count of its epoch, or the Transparent Write Count when it is counted
there (R35, R50). -/
def leaveCount (e : TrackerEntry) (s : State) : State :=
  match e.stream.direction with
  | .read => s
  | .write =>
    match e.epochTag with
    | some t => countSettled t s
    | none =>
      match e.mode with
      | .guarded => s
      | .transparent => { s with ec := { s.ec with transparentWrites := s.ec.transparentWrites - 1 } }

/-- After a write has left its settle count the bank of its epoch moves on if that count is 0 (R29). -/
def drainAfter (e : TrackerEntry) (s : State) : State :=
  match e.stream.direction with
  | .read => s
  | .write =>
    match e.epochTag with
    | some t => drainEpoch t s
    | none => s

/-- A write completes for the Journal Unit, or for the Epoch Controller when it is counted as transparent (R35, R50,
R134). -/
def completeWrite (e : TrackerEntry) (s : State) : State := drainAfter e (leaveCount e s)

end Sys2Proof.Machine
end

