-- ==== Sys2Proof/Machine/Epochs.lean ====
section
/-! DEFINITION. The Epoch Controller's shared events: an accepted cut (R56), the close of a cut epoch (R67), the cut held
by Power-Cut Pending (R63), and the Ring Writer's completion of a slot, which brings the close about (R106, R109). -/

namespace Sys2Proof.Machine

/-- Setting Power-Cut Pending. -/
def setPowerCutPending (v : Bool) (s : State) : State := { s with ec := { s.ec with powerCutPending := v } }

/-- Setting the journal state. -/
def setJournal (j : Journal) (s : State) : State := { s with ec := { s.ec with journal := j } }

/-- A FREE bank opens with an epoch (R27). -/
def openWith (i : BankId) (epoch : Nat) (s : State) : State :=
  setBank i { freeBank with state := .opened, epoch := some epoch } s

/-- The source of a cut (R54): CUT and a power warning open the other bank, JOURNAL_STOP sets the journal OFF. -/
inductive CutSource where
  | command
  | power
  | stop
deriving DecidableEq, Repr

/-- An accepted cut of the OPEN bank i (R56): counters snapshot, bank to SETTLING, the other bank opened or the journal OFF,
POWER_CUT and the flag for a power warning, and DRAINING at once when nothing is left to settle. -/
def acceptCut (i : BankId) (source : CutSource) (s : State) : State :=
  let b := bank s i
  let s1 := snapshotCounters b.epoch s
  let s2 := setBank i { b with state := .settling, power := b.power || decide (source = .power) } s1
  let s3 :=
    match source with
    | .command => openWith i.other (b.epoch.getD 0 + 1) s2
    | .power => setPowerCutPending false (raiseCause .powerCut (openWith i.other (b.epoch.getD 0 + 1) s2))
    | .stop => setPowerCutPending false (setJournal .off s2)
  drainIfSettled i s3

/-- The cut held by Power-Cut Pending is taken, or dropped at the epoch limit (R63). -/
def heldPowerCut (s : State) : State :=
  if s.ec.powerCutPending then
    match openBank s with
    | some i =>
      if (bank s i).epoch.getD 0 < Config.lastEpoch then acceptCut i .power s else setPowerCutPending false s
    | none => setPowerCutPending false s
  else s

/-- The log record of a cut epoch that closes (R116). -/
def closedRecord (b : Bank) (acc : EpochAccount) : LogRecord :=
  { epoch := b.epoch.getD 0, status := epochStatus b.damage b.spill, damage := b.damage, listed := b.listed, copied := b.copied,
    skipped := b.skipped, urgent := b.urgent, firstData := acc.firstData, endSeq := acc.endSeq, power := b.power,
    portReset := b.portReset, spill := b.spill }

/-- The log record of an OPEN epoch that is abandoned (R116). -/
def abandonedRecord (b : Bank) : LogRecord :=
  { epoch := b.epoch.getD 0, status := .abandoned, damage := some .abandon, listed := b.listed, copied := 0, skipped := 0,
    urgent := 0, firstData := none, endSeq := none, power := false, portReset := b.portReset, spill := b.spill }

/-- A record joins the Epoch Log as the newest; of 17 the oldest is removed (R117). -/
def appendLog (r : LogRecord) (s : State) : State :=
  { s with ec := { s.ec with log := (r :: s.ec.log).take Config.logRecords } }

/-- Bank i ends with a log record: appended, the bank FREE, EPOCH_CLOSED raised (steps 2 to 4 of R67). -/
def endEpoch (i : BankId) (r : LogRecord) (s : State) : State :=
  raiseCause .epochClosed (setBank i freeBank (appendLog r s))

/-- The close of the cut epoch when its END record is filled (R67, R109). -/
def closeEpoch (s : State) : State :=
  match cutBank s with
  | none => s
  | some i =>
    if (bank s i).state = .closing then
      let s1 := endEpoch i (closedRecord (bank s i) s.rw.account) s
      heldPowerCut { s1 with rw := { s1.rw with account := emptyAccount } }
    else s

/-- The advance of filled over the contiguous DONE slots (R106): the new filled index, the slots that stay, and whether an
END slot was passed. -/
def advanceFilled : Seq → List Slot → Seq × List Slot × Bool
  | filled, [] => (filled, [], false)
  | filled, x :: xs =>
    if x.seq = filled ∧ x.progress = .done then
      let r := advanceFilled (filled + 1) xs
      (r.1, r.2.1, decide (x.use = .endSlot) || r.2.2)
    else (filled, x :: xs, false)

/-- A slot becomes DONE: filled advances, the END record is written if filled reaches it, the epoch closes if filled passes
its END record (R106, R108, R109). -/
def finishSlot (q : Seq) (s : State) : State :=
  let s1 := changeSlot q (fun x => { x with progress := .done }) s
  let r := advanceFilled s1.rw.filled s1.rw.slots
  let s2 := writeEndIfReady { s1 with rw := { s1.rw with filled := r.1, slots := r.2.1 } }
  if r.2.2 then closeEpoch s2 else s2

/-- A write of a record's data or spill area has resolved. After the last of them the header is requested when all returned
OKAY; otherwise the slot is DONE without one (R89, R108). -/
def resolveArea (q : Seq) (failed : Bool) (s : State) : State :=
  match findSlot q s with
  | none => s
  | some x =>
    match x.record with
    | none => s
    | some w =>
      let w1 := { w with resolved := w.resolved + 1, failed := w.failed + failed.toNat }
      let s1 := changeSlot q (fun x => { x with record := some w1 }) s
      if w1.resolved = w1.areaWrites then
        if w1.failed = 0 then pushBackground [headerRequest s1 x w1] s1 else finishSlot q s1
      else s1

end Sys2Proof.Machine
end

