-- ==== Sys2Proof/Machine/Damage.lean ====
section
/-! DEFINITION. Release of held writes (section 4.3), the end of a copy (section 4.6), damage (section 4.7), and the
resolution of copy reads and record writes. -/

namespace Sys2Proof.Machine

/-! ## Release -/

/-- The granule condition of R78: a BEHIND entry, or an OWN entry whose granule's entry is COPIED or SKIPPED in the bank
of its epoch. -/
def granuleResolved (s : State) (h : HoldEntry) : Bool :=
  match h.waitsOn with
  | none => true
  | some (g, e) =>
    match bankOfEpoch e s with
    | none => false
    | some i =>
      match (bank s i).entryOf g with
      | none => false
      | some d => !d.state.isWaiting

/-- The walk of a release scan from oldest to newest: an entry leaves when it is ready and no entry of its stream stays
earlier in the queue. Gives the entries that stay and those released (R78). -/
def scanHolds (ready : HoldEntry → Bool) : List HoldEntry → List HoldEntry → List HoldEntry × List HoldEntry
  | kept, [] => (kept, [])
  | kept, h :: hs =>
    if ready h && kept.all fun k => decide (k.stream ≠ h.stream) then
      let r := scanHolds ready kept hs
      (r.1, h :: r.2)
    else scanHolds ready (kept ++ [h]) hs

/-- An OWN entry that leaves the queue decreases the held-write count of its granule's entry (R43). -/
def uncountHold (h : HoldEntry) (s : State) : State :=
  match h.waitsOn with
  | none => s
  | some (g, e) =>
    match bankOfEpoch e s with
    | none => s
    | some i => setBank i ((bank s i).changeHeld (· - 1) g) s

/-- Steps 2 to 4 of a release: the count falls, the tracker entry becomes ISSUED, the write goes to the arbiter (R78). -/
def releaseHold (s : State) (h : HoldEntry) : State := issueEntry h.entry (uncountHold h s)

/-- The release scan (R78). -/
def releaseScan (s : State) : State :=
  let r := scanHolds (granuleResolved s) [] s.ce.holdQueue
  r.2.foldl releaseHold { s with ce := { s.ce with holdQueue := r.1 } }

/-- The release of the whole queue at a damage, in queue order (R90). -/
def releaseAll (s : State) : State := s.ce.holdQueue.foldl releaseHold { s with ce := { s.ce with holdQueue := [] } }

/-- The timer of an OWN entry that waits on the granule is stopped (R81). -/
def HoldEntry.stopFor (granule epoch : Nat) (h : HoldEntry) : HoldEntry :=
  if h.waitsOn = some (granule, epoch) then { h with reason := .own granule epoch .stopped } else h

/-- The timers of the OWN entries that wait on a granule stop (R81). -/
def stopTimers (granule epoch : Nat) (s : State) : State :=
  { s with ce := { s.ce with holdQueue := s.ce.holdQueue.map (HoldEntry.stopFor granule epoch) } }

/-! ## The end of a copy -/

/-- The copy operation leaves the set of copies in flight. -/
def removeCopy (q : Seq) (s : State) : State :=
  { s with ce := { s.ce with copies := s.ce.copies.filter fun c => decide (c.seq ≠ q) } }

/-- The dirty-list entry of a copy ends COPIED or SKIPPED, with its count and report (R42). -/
def endEntry (i : BankId) (c : CopyOp) (copied : Bool) (s : State) : State :=
  let b := bank s i
  if copied then
    report { event := .copies } 1 (setBank i { b.setEntry c.index .copied with copied := b.copied + 1 } s)
  else setBank i { b.setEntry c.index .skipped with skipped := b.skipped + 1 } s

/-- A copy completes (R88): COPIED with a DATA record when it is not abandoned and no read failed, else SKIPPED with a VOID
record; timers stop, a release scan is made, R83 is applied again, and the bank may become CLOSING. That the record's writes
join the background queue before the next copies' reads is DEDUCED, notes/assumptions/19.md. -/
def completeCopy (c : CopyOp) (s : State) : State :=
  match bankOfEpoch c.epoch s with
  | none => removeCopy c.seq s
  | some i =>
    let good := !c.abandoned && decide (c.failed = 0)
    let s1 := releaseScan (stopTimers c.granule c.epoch (endEntry i c good s))
    let s2 := if good then handOverData c s1 else handOverVoid c s1
    closeIfResolved i (startCopies (removeCopy c.seq s2))

/-- The copy of a sequence completes if its sixteenth read has resolved (R88). -/
def finishCopy (s : State) (q : Seq) : State :=
  match s.ce.copies.find? fun c => decide (c.seq = q) with
  | none => s
  | some c => if Config.copyReads ≤ c.resolved then completeCopy c s else s

/-- Every copy in flight whose reads have all resolved completes (R88, R90), in start order: DEDUCED,
notes/assumptions/19.md. -/
def finishCopies (s : State) : State := (s.ce.copies.map CopyOp.seq).foldl finishCopy s

/-! ## Damage -/

/-- PENDING entries become SKIPPED and the bank CLOSING (R31, R42). -/
def Bank.skipPending (b : Bank) : Bank :=
  { b with
    state := .closing
    dirty := b.dirty.map fun d => if d.state = .pending then { d with state := .skipped } else d
    skipped := b.skipped + (b.dirty.filter fun d => decide (d.state = .pending)).length }

/-- Every copy in flight is abandoned; its ungranted reads are withdrawn and resolve at once without a failure (R90). -/
def abandonCopies (s : State) : State :=
  let copies := s.ce.copies.map fun c => { c with abandoned := true, resolved := c.resolved + waitingReads c.seq s }
  withdrawReads s.ce.copies { s with ce := { s.ce with copies := copies } }

/-- The effects of a damage on a SETTLING or DRAINING bank (R31, R90, R107). That the END record is asked for before the copies
with no read left end is DEDUCED, notes/assumptions/19.md. -/
def giveUpCopying (i : BankId) (s : State) : State :=
  let s1 := releaseAll (setBank i (bank s i).skipPending s)
  finishCopies (requestEnd (bank s1 i).epoch (abandonCopies s1))

/-- The first damage of an epoch sets its reason, and raises EPOCH_DAMAGED unless it is ABANDON (R33, R65). -/
def setReason (i : BankId) (reason : DamageReason) (s : State) : State :=
  if (bank s i).damage.isNone then
    let s1 := setBank i { bank s i with damage := some reason } s
    if reason = .abandon then s1 else raiseCause .epochDamaged s1
  else s

/-- A damage of bank i: nothing for a FREE or OPEN bank, the reason alone for a CLOSING bank, all of R31 and R90 for a
SETTLING or DRAINING bank (R33, R65). -/
def damageBank (i : BankId) (reason : DamageReason) (s : State) : State :=
  match (bank s i).state with
  | .free | .opened => s
  | .settling | .draining => giveUpCopying i (setReason i reason s)
  | .closing => setReason i reason s

/-- A failure of checkpoint work reaches the cut bank as a damage, and appends a COPY_FAILED fault (R92). -/
def failWork (reason : DamageReason) (memory granule : Option Nat) (s : State) : State :=
  let s1 :=
    match cutBank s with
    | none => s
    | some i => damageBank i reason s
  reportFault .copyFailed { memory := memory, granule := granule } s1

/-! ## Reads and record writes -/

/-- Counting one read of a copy as resolved; a failed read brings no data (R87). -/
def CopyOp.resolve (k : Nat) (data : Option (List Byte)) (c : CopyOp) : CopyOp :=
  match data with
  | some bs => { c with resolved := c.resolved + 1, data := c.data.set k bs }
  | none => { c with resolved := c.resolved + 1, failed := c.failed + 1 }

/-- Counting one read of the copy of a sequence (R87). -/
def resolveRead (q : Seq) (k : Nat) (data : Option (List Byte)) (s : State) : State :=
  { s with ce := { s.ce with copies := s.ce.copies.map fun c => if c.seq = q then c.resolve k data else c } }

/-- The granule of a copy in flight. -/
def copyGranule (q : Seq) (s : State) : Option Nat :=
  (s.ce.copies.find? fun c => decide (c.seq = q)).map CopyOp.granule

/-- The granule of the record in a slot; none for an END record (R92). -/
def recordGranule (q : Seq) (s : State) : Option Nat :=
  match findSlot q s with
  | none => none
  | some x => (x.record.map RecordWrite.granule).join

/-- A copy read answered OKAY (R87, R88). -/
def copyReadOkay (q : Seq) (k : Nat) (data : List Byte) (s : State) : State := finishCopy (resolveRead q k (some data) s) q

/-- A copy read answered ERROR or expired: resolved and failed, the epoch damaged, the fault reported (R87, R92). -/
def copyReadFailed (q : Seq) (k : Nat) (reason : DamageReason) (address : Nat) (s : State) : State :=
  finishCopies (failWork reason (some address) (copyGranule q s) (resolveRead q k none s))

/-- A record write answered ERROR or expired damages the epoch (R92). -/
def recordFailed (q : Seq) (address : Nat) (s : State) : State :=
  failWork .recordWrite (some address) (recordGranule q s) s

end Sys2Proof.Machine
end

