-- ==== Sys2Proof/Machine/Upstream.lean ====
section
/-! DEFINITION. The upstream port (chapter 7): staging and acceptance of transactions with the tag, the mark and the hold
check that an acceptance makes (R34, R37, R72). Also the frame that every event of the bridge stands in. -/

namespace Sys2Proof.Machine

/-- An event of the bridge: nothing is taken while RST_N is low (R143, R157, R176); RING_LOW is judged over the whole event
(R112). -/
def event (f : State → State) (s : State) : Host.Outcome State Fault Refusal :=
  .next (if s.pins.rstN then raiseRingLow s (f s) else s)

/-! ## Tag, mark, hold -/

/-- The epoch tag of a guarded write: the OPEN bank's epoch while RECORDING, counted in its settle count (R34). -/
def tagWrite (n : Nat) (s : State) : State :=
  match s.ec.journal, openBank s with
  | .recording, some i =>
    changeEntry n (fun e => { e with epochTag := (bank s i).epoch })
      (setBank i { bank s i with settle := (bank s i).settle + 1 } s)
  | _, _ => s

/-- A spill entry widened to take a granule (R39). -/
def SpillEntry.widen (granule : Nat) (e : SpillEntry) : SpillEntry :=
  { e with low := min e.low granule, high := max e.high granule }

/-- The spill list after a spill through a window (R39). -/
def spillThrough (window granule : Nat) (spill : List SpillEntry) : List SpillEntry :=
  if spill.any fun e => decide (e.window = window) then
    spill.map fun e => if e.window = window then e.widen granule else e
  else spill ++ [{ window := window, low := granule, high := granule }]

/-- The mark of a granule in bank i: already listed, appended, or spilled (R37, R39). -/
def markGranule (i : BankId) (granule window : Nat) (domain : Option Nat) (s : State) : State :=
  let b := bank s i
  if (b.entryOf granule).isSome then s
  else if b.dirty.length < Config.dirtyEntries then
    report { event := .marked, domain := domain, window := some window } 1
      (setBank i
        { b with dirty := b.dirty ++ [{ granule := granule, state := .pending, held := 0 }], listed := b.listed + 1 } s)
  else
    let s1 := report { event := .spilled } 1 (setBank i { b with spill := spillThrough window granule b.spill } s)
    if b.spill.isEmpty then raiseCause .spill s1 else s1

/-- The mark of a passed guarded write, while RECORDING, through a journaled window (R37). -/
def markWrite (r : LookupResult) (granule : Nat) (s : State) : State :=
  match s.ec.journal, openBank s, r.window with
  | .recording, some i, some w => if r.journaled then markGranule i granule w r.domain s else s
  | _, _, _ => s

/-- A held write joins the Hold Queue: its tracker entry becomes HELD and a HELD event is reported (R70, R73, R74). -/
def joinQueue (h : HoldEntry) (r : LookupResult) (s : State) : State :=
  let s1 := { s with ce := { s.ce with holdQueue := s.ce.holdQueue ++ [h] } }
  report { event := .held, domain := r.domain, window := r.window } 1
    (changeEntry h.entry (fun e => { e with phase := .held, held := true }) s1)

/-- The copy of a granule that is not urgent is promoted by the first OWN hold on it: its class becomes urgent and its reads
that wait move. A copy all of whose reads have been granted is not changed (R73, R84). -/
def promoteCopy (granule epoch : Nat) (s : State) : State :=
  match s.ce.copies.find? fun c => decide (c.granule = granule) && decide (c.epoch = epoch) with
  | none => s
  | some c =>
    if c.cls = .background ∧ s.dp.background.any (Request.isReadOf c.seq) = true then
      let copies := s.ce.copies.map fun d => if d.seq = c.seq then { d with cls := .urgent } else d
      promoteReads c.seq { s with ce := { s.ce with copies := copies } }
    else s

/-- A write held with reason OWN on an entry of bank i (R73). -/
def holdOwn (n : Nat) (str : WriteStream) (i : BankId) (d : DirtyEntry) (r : LookupResult) (s : State) : State :=
  let epoch := (bank s i).epoch.getD 0
  let h : HoldEntry := { entry := n, stream := str, reason := .own d.granule epoch (.running s.ce.holdLimit 0) }
  let s1 := setBank i ((bank s i).changeHeld (· + 1) d.granule) (joinQueue h r s)
  if d.state = .copying then promoteCopy d.granule epoch s1 else s1

/-- The entry on which a write to the granule would be held with reason OWN, with its bank (test 1 of Table 4.2.1). -/
def ownHold (s : State) (granule : Nat) : Option (BankId × DirtyEntry) :=
  match holdBank s with
  | none => none
  | some i =>
    match (bank s i).entryOf granule with
    | none => none
    | some d => if d.state.isWaiting then some (i, d) else none

/-- The hold check of an accepted guarded write (R72 to R75). -/
def holdCheck (n granule : Nat) (str : WriteStream) (r : LookupResult) (s : State) : State :=
  match ownHold s granule with
  | some (i, d) => holdOwn n str i d r s
  | none =>
    if s.ce.holdQueue.any fun h => decide (h.stream = str) then
      joinQueue { entry := n, stream := str, reason := .behind } r s
    else issueEntry n s

/-! ## Acceptance -/

/-- The zero bytes of a refused read: its accepted length, or its beats field when the length is outside 1 to 256 (R135). -/
def refusedBytes (dir : Direction) (t : Txn) : List Byte :=
  match dir with
  | .read => List.replicate (if 1 ≤ t.length ∧ t.length ≤ 256 then t.length else t.beats) 0#8
  | .write => []

/-- The tracker entry that an acceptance takes, in LOOKUP_DONE, with what the lookup recorded (R131, R133). -/
def newEntry (n : Nat) (dir : Direction) (t : Txn) (data : List Byte) (strobes : List Bool) (mode : Mode) (r : LookupResult) :
    TrackerEntry :=
  { number := n, phase := .lookupDone, stream := { initiator := t.initiator, otag := t.otag, direction := dir }, host := t.host,
    length := t.length, mode := mode, domain := r.domain, window := r.window, memory := r.memory, epochTag := none, held := false,
    outcome := none, readData := [], exclusiveResult := none, delivery := .deliver, data := data, strobes := strobes,
    exclusive := t.exclusive }

/-- A refusal by lookup: outcome REFUSED, the fault record, and the response as soon as the stream allows
(R12, R131, R135). -/
def refuseEntry (n : Nat) (dir : Direction) (t : Txn) (kind : FaultKind) (r : LookupResult) (s : State) : State :=
  let fields : FaultFields :=
    { initiator := some t.initiator, direction := some dir, host := some t.host, domain := r.domain, window := r.window,
      memory := r.memory }
  let s1 := changeEntry n (fun e => { e with phase := .answered, outcome := some .refused, readData := refusedBytes dir t }) s
  returnStream { initiator := t.initiator, otag := t.otag, direction := dir } (reportFault kind fields s1)

/-- A passed write: counted and issued in TRANSPARENT mode; tagged, marked and hold-checked in GUARDED mode (R131). -/
def passWrite (n : Nat) (t : Txn) (r : LookupResult) (s : State) : State :=
  match s.wu.mode with
  | .transparent => issueEntry n { s with ec := { s.ec with transparentWrites := s.ec.transparentWrites + 1 } }
  | .guarded =>
    let granule := granuleOf (r.memory.getD 0)
    holdCheck n granule { initiator := t.initiator, otag := t.otag } r (markWrite r granule (tagWrite n s))

/-- The acceptance of a transaction into tracker entry n (R131). -/
def acceptInto (n : Nat) (dir : Direction) (t : Txn) (data : List Byte) (strobes : List Bool) (s : State) : State :=
  let r := lookup s.wu dir t
  let e := newEntry n dir t data strobes s.wu.mode r
  let s1 :=
    report { event := .accepted, domain := r.domain, window := r.window, direction := some dir } 1
      { s with up := { s.up with tracker := s.up.tracker ++ [e] } }
  match r.refusal with
  | some kind => refuseEntry n dir t kind r s1
  | none =>
    match dir with
    | .read => issueEntry n s1
    | .write => passWrite n t r s1

/-- The conditions of R129: ACCEPTING and a FREE tracker entry, whose number it gives. -/
def mayAccept (s : State) : Option Nat := if s.up.portState = .accepting then freeEntry s else none

/-- A read request taken, or left to wait at the port (R129). -/
def acceptRead (t : Txn) (s : State) : State :=
  match mayAccept s with
  | none => s
  | some n => acceptInto n .read t [] [] s

/-- The staged write accepted at its last beat, or left staged (R130). -/
def acceptStaged (s : State) : State :=
  match s.up.staging, mayAccept s with
  | some w, some n =>
    if s.ce.holdQueue.length < Config.holdQueueEntries then
      acceptInto n .write w.txn w.data w.strobes { s with up := { s.up with staging := none } }
    else s
  | _, _ => s

/-- A write request taken into the empty staging buffer while the port is ACCEPTING, or left to wait (R130). -/
def stageWrite (w : WriteTxn) (s : State) : State :=
  if s.up.portState = .accepting ∧ s.up.staging = none then { s with up := { s.up with staging := some w } } else s

/-- WRITE_STAGING (R130). -/
def execWriteStaging (w : WriteTxn) (s : State) : Host.Outcome State Fault Refusal := event (stageWrite w) s

/-- ACCEPTANCE (R131). -/
def execAcceptance (p : Presented) (s : State) : Host.Outcome State Fault Refusal :=
  match p with
  | .read t => event (acceptRead t) s
  | .lastBeat => event acceptStaged s

end Sys2Proof.Machine
end

