-- ==== Sys2Proof/Machine/Link.lean ====
section
/-! DEFINITION. The management port (chapter 11): the exchange, the request frame, the refusals of R177 and R178, the
response, and the frame that every execution of a command stands in (R179). -/

namespace Sys2Proof.Machine

/-! ## Responses -/

/-- A response is composed into the buffer and the port moves to RESPONDING (R177, R179). -/
def respond (tag : Byte) (ans : Answer) (mp : ManagementPort) : ManagementPort :=
  { mp with exchange := .responding, received := [], response := responseFrame tag ans }

/-- The refusal that R178 gives a well-formed frame: UNKNOWN_COMMAND, or BAD_PARAM for a wrong parameter length; none for a
frame that is handed to its owning block. -/
def Frame.refusal (f : Frame) : Option Status :=
  match paramLength f.code with
  | none => some .unknownCommand
  | some n => if f.params.length = n then none else some .badParam

/-- The command whose execution a frame awaits. -/
def Frame.command (f : Frame) : Option Instr := commandOf f.code f.params

/-- The answer of an execution reaches the port (R179, R181): the frame that awaited this command awaits no longer, and its
response is ready unless CS_N has risen since. An execution that no frame awaits gives no response
(DESIGN CHOICE, notes/assumptions/1.md). -/
def deliverAnswer (c : Instr) (ans : Answer) (s : State) : State :=
  let mp := { s.mp with answer := some ans }
  match s.mp.awaiting with
  | none => { s with mp := mp }
  | some f =>
    if f.command = some c then
      let mp1 := { mp with awaiting := none }
      { s with mp := if s.mp.exchange = .waiting then respond f.tag ans mp1 else mp1 }
    else { s with mp := mp }

/-- The execution of a command: one event at its owning block, which gives the answer (R179). -/
def execute (c : Instr) (body : State → Answer × State) (s : State) : Host.Outcome State Fault Refusal :=
  .next (if s.pins.rstN then deliverAnswer c (body s).1 (raiseRingLow s (body s).2) else s)

/-- An answer without data. -/
def plain (st : Status) : Answer := { status := st, data := [] }

/-- A command that changes nothing and gives a status without data (R183). -/
def refuse (st : Status) (s : State) : Answer × State := (plain st, s)

/-- A command taken with data. -/
def taken (data : List Byte) (s : State) : Answer × State := ({ status := .ok, data := data }, s)

/-! ## The exchange -/

/-- The pin CS_N. -/
def setCsN (v : Bool) (s : State) : State := { s with pins := { s.pins with csN := v } }

/-- A fall of CS_N begins an exchange: SHUT_OUT while a command awaits its execution, RECEIVING otherwise; while RST_N is
low none begins (R176, R182). -/
def csFall (s : State) : State :=
  if s.pins.csN then
    let s1 := setCsN false s
    if s.pins.rstN then
      { s1 with mp := { s1.mp with
        exchange := if s1.mp.awaiting.isSome then .shutOut else .receiving, received := [], response := [], sdo := some 0#8 } }
    else s1
  else s

/-- CS_N_FALL (R182). -/
def execCsNFall (s : State) : Host.Outcome State Fault Refusal := .next (csFall s)

/-- A rise of CS_N returns the port to IDLE, discards a partial frame and the rest of a response, and empties the response
buffer; a command that awaits its execution stays, a frame that awaits its refusal is dropped with that refusal
(R178, R181). -/
def csRise (s : State) : State :=
  if s.pins.csN then s
  else
    let s1 := setCsN true s
    { s1 with mp := { s1.mp with
      exchange := .idle, received := [], response := [], sdo := none
      awaiting := s1.mp.awaiting.filter fun f => f.refusal.isNone } }

/-- CS_N_RISE (R181). -/
def execCsNRise (s : State) : Host.Outcome State Fault Refusal := .next (csRise s)

/-- A bad frame: its BAD_FRAME response is composed with the tag as stated (R177). -/
def badFrame (tag : Byte) (mp : ManagementPort) : ManagementPort := respond tag (plain .badFrame) mp

/-- A byte taken in RECEIVING, and the judgement of the frame at byte 0, at byte 3 and at the CRC byte; in any other exchange
state the byte is ignored (R177, Table 11.2.1). -/
def takeByte (mp : ManagementPort) (b : Byte) : ManagementPort :=
  match mp.exchange with
  | .receiving =>
    let rx := mp.received ++ [b]
    let n := rx.length
    let tag := rx.getD 2 0#8
    let len := (rx.getD 3 0#8).toNat
    if n = 1 ∧ b ≠ requestStart then badFrame 0#8 mp
    else if n = 4 ∧ 60 < len then badFrame tag mp
    else if 5 ≤ n ∧ n = 5 + len then
      if b = crc8 mp.received then
        let f : Frame := { code := rx.getD 1 0#8, tag := tag, params := mp.received.drop 4 }
        { mp with exchange := .waiting, received := [], awaiting := some f }
      else badFrame tag mp
    else { mp with received := rx }
  | .idle | .waiting | .responding | .spent | .shutOut => mp

/-- REQUEST_FRAME (R177): the bytes shift in one after another. -/
def execRequestFrame (bytes : List Byte) (s : State) : Host.Outcome State Fault Refusal :=
  event (fun s => { s with mp := bytes.foldl takeByte s.mp }) s

/-- The refusal of the frame that awaits one is composed and made ready (R178). -/
def refuseFrame (s : State) : State :=
  match s.mp.awaiting with
  | none => s
  | some f =>
    match f.refusal with
    | none => s
    | some st =>
      let mp := { s.mp with awaiting := none }
      { s with mp := if s.mp.exchange = .waiting then respond f.tag (plain st) mp else mp }

/-- FRAME_REFUSAL (R178). -/
def execFrameRefusal (s : State) : Host.Outcome State Fault Refusal := event refuseFrame s

/-- A byte shifts out on SDO: in RESPONDING the next byte of the response, and SPENT after the last; in every other exchange
0x00; nothing while CS_N is high (R180, Table 11.2.1). -/
def shiftOut (mp : ManagementPort) : ManagementPort :=
  match mp.exchange with
  | .idle => mp
  | .responding =>
    match mp.response with
    | [] => { mp with exchange := .spent, sdo := some 0#8 }
    | b :: rest => { mp with exchange := if rest.isEmpty then .spent else .responding, response := rest, sdo := some b }
  | .receiving | .waiting | .spent | .shutOut => { mp with sdo := some 0#8 }

/-- RESPONSE_BYTE_SHIFTED_OUT (R180). -/
def execResponseByteShiftedOut (s : State) : Host.Outcome State Fault Refusal :=
  event (fun s => { s with mp := shiftOut s.mp }) s

end Sys2Proof.Machine
end

