-- ==== Sys2Proof/Machine/MonitorCommands.lean ====
section
/-! DEFINITION. The commands of the Fault Queue (R163), the Traffic Monitor (section 10.5) and the Alert Unit
(section 6.4). -/

namespace Sys2Proof.Machine

/-! ## READ_FAULT -/

/-- The data of READ_FAULT for a record (R163, Table 12.1.6). -/
def faultData (lost left : Nat) (r : FaultRecord) : List Byte :=
  let f := r.fields
  beBytes 1 lost ++ beBytes 1 left ++ beBytes 2 r.seq.toNat ++ beBytes 1 r.kind.code ++
  beBytes 1 (bits [f.initiator.isSome, f.direction.isSome, f.host.isSome, f.domain.isSome, f.window.isSome, f.memory.isSome,
    f.granule.isSome]) ++
  optBytes 1 f.initiator ++ optBytes 1 (f.direction.map directionCode) ++ optBytes 5 f.host ++ beBytes 1 (codeOr255 f.domain) ++
  beBytes 1 (codeOr255 f.window) ++ optBytes 5 f.memory ++ optBytes 4 f.granule ++ beBytes 4 r.timestamp.toNat

/-- READ_FAULT at FQ (R163). -/
def readFault (s : State) : Answer × State :=
  match s.fq.records with
  | [] => ({ status := .empty, data := beBytes 1 s.fq.lost ++ beBytes 1 0 }, s)
  | r :: rest => taken (faultData s.fq.lost rest.length r) { s with fq := { s.fq with records := rest, lost := 0 } }

/-- READ_FAULT (R163). -/
def execReadFault (s : State) : Host.Outcome State Fault Refusal := execute .readFault readFault s

/-! ## Counters -/

/-- The configuration of a counter as the seven parameter fields of SET_COUNTER (Table 12.1.6). -/
def counterConfig (n : Nat) (c : Counter) : List Byte :=
  beBytes 1 n ++ beBytes 1 c.event.code ++ beBytes 1 (codeOr255 c.domain) ++ beBytes 1 (codeOr255 c.window) ++
    beBytes 1 (directionFilterCode c.direction) ++ beBytes 1 c.scope.code ++ beBytes 1 c.enabled.toNat

/-- SET_COUNTER's fields put into a counter; none when a field is out of range (R173). -/
def configureCounter (event domain window direction scope enable : Nat) (c : Counter) : Option Counter :=
  match counterEventOf event, numberOr255 16 domain, numberOr255 64 window, directionFilterOf direction, scopeOf scope,
    flagOf enable with
  | some e, some d, some w, some r, some sc, some en =>
    some { c with event := e, domain := d, window := w, direction := r, scope := sc, enabled := en }
  | _, _, _, _, _, _ => none

/-- Replacing a counter. -/
def setCounterAt (n : Nat) (c : Counter) (s : State) : State :=
  { s with tm := { counters := s.tm.counters.setIfInBounds n c } }

/-- SET_COUNTER at TM (R173). -/
def setCounter (counter event domain window direction scope enable : Nat) (s : State) : Answer × State :=
  match s.tm.counters[counter]? with
  | none => refuse .badParam s
  | some c =>
    match configureCounter event domain window direction scope enable c with
    | none => refuse .badParam s
    | some c1 => taken (counterConfig counter c1) (setCounterAt counter c1 s)

/-- SET_COUNTER (R173). -/
def execSetCounter (counter event domain window direction scope enable : Nat) (s : State) :
    Host.Outcome State Fault Refusal :=
  execute (.setCounter counter event domain window direction scope enable)
    (setCounter counter event domain window direction scope enable) s

/-- READ_COUNTER at TM (R174). -/
def readCounter (counter : Nat) (s : State) : Answer × State :=
  match s.tm.counters[counter]? with
  | none => refuse .badParam s
  | some c =>
    taken (counterConfig counter c ++ beBytes 1 (bits [c.wrap, c.snapWrap]) ++ beBytes 6 c.value ++ beBytes 6 c.snapValue ++
      optBytes 4 c.snapEpoch) s

/-- READ_COUNTER (R174). -/
def execReadCounter (counter : Nat) (s : State) : Host.Outcome State Fault Refusal :=
  execute (.readCounter counter) (readCounter counter) s

/-- CLEAR_COUNTER at TM (R175). -/
def clearCounter (counter : Nat) (s : State) : Answer × State :=
  match s.tm.counters[counter]? with
  | none => refuse .badParam s
  | some c => taken [] (setCounterAt counter { c with value := 0, wrap := false } s)

/-- CLEAR_COUNTER (R175). -/
def execClearCounter (counter : Nat) (s : State) : Host.Outcome State Fault Refusal :=
  execute (.clearCounter counter) (clearCounter counter) s

/-! ## Alerts -/

/-- SET_ALERT_ENABLE at AU (R123). -/
def setAlertEnable (causes : Byte) (s : State) : Answer × State :=
  taken [causes] { s with au := { s.au with enable := causes } }

/-- SET_ALERT_ENABLE (R123). -/
def execSetAlertEnable (causes : Byte) (s : State) : Host.Outcome State Fault Refusal :=
  execute (.setAlertEnable causes) (setAlertEnable causes) s

/-- READ_ALERTS at AU (R124). -/
def readAlerts (s : State) : Answer × State :=
  taken [s.au.pending, s.au.enable, BitVec.ofNat 8 (alertDriven s).toNat] s

/-- READ_ALERTS (R124). -/
def execReadAlerts (s : State) : Host.Outcome State Fault Refusal := execute .readAlerts readAlerts s

/-- ACK_ALERTS at AU (R122). -/
def ackAlerts (causes : Byte) (s : State) : Answer × State :=
  taken [s.au.pending &&& ~~~causes] { s with au := { s.au with pending := s.au.pending &&& ~~~causes } }

/-- ACK_ALERTS (R122). -/
def execAckAlerts (causes : Byte) (s : State) : Host.Outcome State Fault Refusal :=
  execute (.ackAlerts causes) (ackAlerts causes) s

end Sys2Proof.Machine
end

