-- ==== Sys2Proof/Machine/Resets.lean ====
section
/-! DEFINITION. The reset and warning pins: power-on reset (R143, R186 and the reset rule of each chapter), port reset
(section 7.5, R94), PWRWARN (section 3.7). -/

namespace Sys2Proof.Machine

/-- The port state at the release of RST_N, or while it is low, by the level of PORT_RST_N (R128, R143). -/
def portAtRelease (portRstN : Bool) : PortState := if portRstN then .accepting else .inReset

/-- An assertion of RST_N returns every block to its values after power-on reset; the pins keep their levels and what waits
outside keeps waiting (R24, R48, R69, R96, R114, R125, R157, R165, R186). -/
def assertReset (s : State) : State :=
  if s.pins.rstN then powerOn { s.pins with rstN := false } (portAtRelease s.pins.portRstN) s.pending else s

/-- RST_N_ASSERT (R186). -/
def execRstNAssert (s : State) : Host.Outcome State Fault Refusal := .next (assertReset s)

/-- The release of RST_N: the port starts ACCEPTING, or IN_RESET with PORT_RST_N low (R128, R143). -/
def releaseReset (s : State) : State :=
  if s.pins.rstN then s
  else
    { s with pins := { s.pins with rstN := true }, up := { s.up with portState := portAtRelease s.pins.portRstN } }

/-- RST_N_RELEASE (R143). -/
def execRstNRelease (s : State) : Host.Outcome State Fault Refusal := .next (releaseReset s)

/-! ## Port reset -/

/-- Every Hold Queue entry is discarded, its held-write count falling (R94). -/
def discardHolds (s : State) : State :=
  s.ce.holdQueue.foldl (fun s h => uncountHold h s) { s with ce := { s.ce with holdQueue := [] } }

/-- The PORT_RESET flag is set on the OPEN bank (R44). -/
def flagOpenBank (s : State) : State :=
  match openBank s with
  | none => s
  | some i => setBank i { bank s i with portReset := true } s

/-- Only ISSUED entries stay, each with delivery DISCARD (R139). -/
def keepIssued (tracker : List TrackerEntry) : List TrackerEntry :=
  (tracker.filter fun e => decide (e.phase = .issued)).map fun e => { e with delivery := .discard }

/-- The effects of an assertion of PORT_RST_N (R139): every discarded write leaves its count, then a SETTLING bank whose count
thereby reached 0 moves on (R48, R68). -/
def portReset (s : State) : State :=
  let dropped := s.up.tracker.filter fun e => decide (e.phase = .held)
  let s1 := flagOpenBank (discardHolds s)
  let s2 := { s1 with up := { portState := .inReset, tracker := keepIssued s1.up.tracker, staging := none } }
  dropped.foldl (fun s e => drainAfter e s) (dropped.foldl (fun s e => leaveCount e s) s2)

/-- The pin PORT_RST_N. -/
def setPortRstN (v : Bool) (s : State) : State := { s with pins := { s.pins with portRstN := v } }

/-- A change of PORT_RST_N from high to low; while RST_N is low the level alone changes (R128, R143). -/
def assertPortReset (s : State) : State :=
  if s.pins.portRstN then
    let s1 := setPortRstN false s
    if s.pins.rstN then raiseRingLow s (portReset s1) else s1
  else s

/-- PORT_RST_N_ASSERT (R139). -/
def execPortRstNAssert (s : State) : Host.Outcome State Fault Refusal := .next (assertPortReset s)

/-- A change of PORT_RST_N from low to high: IN_RESET ends, in ACCEPTING with an empty tracker and in RESET_DRAIN
otherwise (R128, R141). -/
def deassertPortReset (s : State) : State :=
  if s.pins.portRstN then s
  else
    let s1 := setPortRstN true s
    if s.pins.rstN then
      { s1 with up := { s1.up with portState := if s1.up.tracker.isEmpty then .accepting else .resetDrain } }
    else s1

/-- PORT_RST_N_DEASSERT (R141). -/
def execPortRstNDeassert (s : State) : Host.Outcome State Fault Refusal := .next (deassertPortReset s)

/-! ## PWRWARN -/

/-- The pin PWRWARN. -/
def setPwrwarn (v : Bool) (s : State) : State := { s with pins := { s.pins with pwrwarn := v } }

/-- The handling of a PWRWARN assertion by the state it finds (Table 3.7.1). -/
def powerWarning (s : State) : State :=
  match s.ec.journal, openBank s with
  | .recording, some i =>
    if s.ec.powerCutPending then s
    else if (bank s i.other).state = .free then
      if (bank s i).epoch.getD 0 < Config.lastEpoch then acceptCut i .power s else s
    else setPowerCutPending true s
  | _, _ => s

/-- A change of PWRWARN from low to high; while RST_N is low the level alone changes (R62). -/
def assertPwrwarn (s : State) : State :=
  if s.pins.pwrwarn then s
  else
    let s1 := setPwrwarn true s
    if s.pins.rstN then raiseRingLow s (powerWarning s1) else s1

/-- PWRWARN_ASSERT (R62). -/
def execPwrwarnAssert (s : State) : Host.Outcome State Fault Refusal := .next (assertPwrwarn s)

/-- PWRWARN_DEASSERT: the level alone changes, which allows a later assertion (R62). -/
def execPwrwarnDeassert (s : State) : Host.Outcome State Fault Refusal := .next (setPwrwarn false s)

end Sys2Proof.Machine
end

