-- ==== Sys2Proof/Machine/JournalCommands.lean ====
section
/-! DEFINITION. The journal commands: JOURNAL_START, CUT, JOURNAL_STOP, ABANDON (chapter 3), and the reading of the banks
(section 2.7). -/

namespace Sys2Proof.Machine

/-- A bank's name and its epoch in 5 bytes. -/
def bankEpochBytes (i : BankId) (epoch : Nat) : List Byte := beBytes 1 i.code ++ beBytes 4 epoch

/-! ## JOURNAL_START -/

/-- The bank that JOURNAL_START opens: A if both are FREE, otherwise the FREE bank (R27, R53). -/
def freeBankId (s : State) : Option BankId := findBank (fun b => decide (b.state = .free)) s

/-- The epoch is greater than every epoch held in a bank and every epoch of the Epoch Log (check 7 of R52). -/
def epochAboveAll (epoch : Nat) (s : State) : Bool :=
  decide (s.ju.bankA.epoch.getD 0 < epoch) && decide (s.ju.bankB.epoch.getD 0 < epoch) &&
    s.ec.log.all fun r => decide (r.epoch < epoch)

/-- JOURNAL_START at EC, checks in the order of R52, effects of R53. -/
def journalStart (epoch : Nat) (s : State) : Answer × State :=
  if epoch = 0 then refuse .badParam s
  else
    match s.wu.mode with
    | .transparent => refuse .wrongMode s
    | .guarded =>
      if s.rw.place.isNone then refuse .noRing s
      else
        match freeBankId s with
        | none => refuse .busy s
        | some i =>
          if s.ec.journal = .recording then refuse .notIdle s
          else if 0 < s.ec.transparentWrites then refuse .notIdle s
          else if !epochAboveAll epoch s then refuse .badEpoch s
          else taken (bankEpochBytes i epoch) (setJournal .recording (openWith i epoch s))

/-- JOURNAL_START (R52). -/
def execJournalStart (epoch : Nat) (s : State) : Host.Outcome State Fault Refusal :=
  execute (.journalStart epoch) (journalStart epoch) s

/-! ## CUT and JOURNAL_STOP -/

/-- CUT at EC, checks in the order of R55. -/
def cutCommand (s : State) : Answer × State :=
  match s.ec.journal, openBank s with
  | .recording, some i =>
    let epoch := (bank s i).epoch.getD 0
    if (bank s i.other).state ≠ .free then refuse .busy s
    else if Config.lastEpoch ≤ epoch then refuse .epochLimit s
    else taken (bankEpochBytes i epoch ++ bankEpochBytes i.other (epoch + 1)) (acceptCut i .command s)
  | _, _ => refuse .notRecording s

/-- CUT (R55). -/
def execCut (s : State) : Host.Outcome State Fault Refusal := execute .cut cutCommand s

/-- JOURNAL_STOP at EC, checks in the order of R58. -/
def stopCommand (s : State) : Answer × State :=
  match s.ec.journal, openBank s with
  | .recording, some i =>
    if (bank s i.other).state ≠ .free then refuse .busy s
    else taken (bankEpochBytes i ((bank s i).epoch.getD 0)) (acceptCut i .stop s)
  | _, _ => refuse .notRecording s

/-- JOURNAL_STOP (R58). -/
def execJournalStop (s : State) : Host.Outcome State Fault Refusal := execute .journalStop stopCommand s

/-! ## ABANDON -/

/-- ABANDON of the cut bank: a damage with reason ABANDON (R60). -/
def abandonCut (s : State) : State :=
  match cutBank s with
  | none => s
  | some i => damageBank i .abandon s

/-- ABANDON of the OPEN bank: logged and FREE at once (R26, R60). -/
def abandonOpen (s : State) : State :=
  match openBank s with
  | none => s
  | some i => endEpoch i (abandonedRecord (bank s i)) s

/-- ABANDON at EC (R59): its response gives each bank's state and epoch after the execution. -/
def abandonCommand (s : State) : Answer × State :=
  let s1 := setPowerCutPending false (setJournal .off (abandonOpen (abandonCut s)))
  taken (bankBytes s1.ju.bankA ++ bankBytes s1.ju.bankB) s1

/-- ABANDON (R59). -/
def execAbandon (s : State) : Host.Outcome State Fault Refusal := execute .abandon abandonCommand s

/-! ## Reading the journal -/

/-- A page of a list. -/
def page {α : Type} (start size : Nat) (l : List α) : List α := (l.drop start).take size

/-- A dirty-list entry in a response (Table 12.1.6). -/
def dirtyBytes (d : DirtyEntry) : List Byte := beBytes 4 d.granule ++ beBytes 1 d.state.code ++ beBytes 1 d.held

/-- A spill entry in a response (Table 12.1.6). -/
def spillBytes (e : SpillEntry) : List Byte := beBytes 1 e.window ++ beBytes 4 e.low ++ beBytes 4 e.high

/-- The data of READ_BANK (R45, Table 12.1.6). -/
def bankData (b : Bank) (start : Nat) : List Byte :=
  let p := page start 16 b.dirty
  beBytes 1 b.state.code ++ optBytes 4 b.epoch ++ beBytes 1 (damageCode b.damage) ++ beBytes 1 (bits [b.power, b.portReset]) ++
  beBytes 1 b.settle ++ beBytes 2 b.listed ++ beBytes 2 b.copied ++ beBytes 2 b.skipped ++ beBytes 2 b.urgent ++
  beBytes 1 b.spill.length ++ beBytes 1 p.length ++ p.flatMap dirtyBytes

/-- READ_BANK at JU (R45). -/
def readBank (which start : Nat) (s : State) : Answer × State :=
  match bankOf which with
  | none => refuse .badParam s
  | some i => if 4095 < start then refuse .badParam s else taken (bankData (bank s i) start) s

/-- READ_BANK (R45). -/
def execReadBank (which start : Nat) (s : State) : Host.Outcome State Fault Refusal :=
  execute (.readBank which start) (readBank which start) s

/-- The granule lies inside a spill range of the bank (R47). -/
def Bank.inSpill (b : Bank) (granule : Nat) : Bool :=
  b.spill.any fun e => decide (e.low ≤ granule) && decide (granule ≤ e.high)

/-- One bank's result of LOOKUP_GRANULE (R47, Table 12.1.6). -/
def lookupBytes (b : Bank) (granule : Nat) : List Byte :=
  let index := b.dirty.findIdx? fun d => decide (d.granule = granule)
  let entry := b.entryOf granule
  bankBytes b ++ beBytes 1 (bits [entry.isSome, b.inSpill granule]) ++ optBytes 2 index ++
    optBytes 1 (entry.map fun d => d.state.code) ++ optBytes 1 (entry.map DirtyEntry.held)

/-- LOOKUP_GRANULE at JU (R47). -/
def lookupGranule (granule : Nat) (s : State) : Answer × State :=
  if Config.granuleSpace ≤ granule then refuse .badParam s
  else taken (lookupBytes s.ju.bankA granule ++ lookupBytes s.ju.bankB granule) s

/-- LOOKUP_GRANULE (R47). -/
def execLookupGranule (granule : Nat) (s : State) : Host.Outcome State Fault Refusal :=
  execute (.lookupGranule granule) (lookupGranule granule) s

/-- READ_SPILL at JU (R46). -/
def readSpill (which start : Nat) (s : State) : Answer × State :=
  match bankOf which with
  | none => refuse .badParam s
  | some i =>
    if 63 < start then refuse .badParam s
    else
      let spill := (bank s i).spill
      let p := page start 8 spill
      taken (beBytes 1 spill.length ++ beBytes 1 p.length ++ p.flatMap spillBytes) s

/-- READ_SPILL (R46). -/
def execReadSpill (which start : Nat) (s : State) : Host.Outcome State Fault Refusal :=
  execute (.readSpill which start) (readSpill which start) s

end Sys2Proof.Machine
end

