-- ==== Sys2Proof/Machine/RingCommands.lean ====
section
/-! DEFINITION. The ring commands (chapter 5) and the reading of the Epoch Log (section 6.1). -/

namespace Sys2Proof.Machine

/-! ## CONFIGURE_RING -/

/-- Check 2 of R98 fails: RECORDING, a bank not FREE, or a Pending End Marker. -/
def ringBusy (s : State) : Bool :=
  decide (s.ec.journal = .recording) || decide (s.ju.bankA.state ≠ .free) || decide (s.ju.bankB.state ≠ .free) ||
    s.rw.pendingEnd.isSome

/-- The ring after an accepted CONFIGURE_RING: placed, or not configured, with indices and position 0 and the slot table and
epoch account empty (R98, R99, R101). -/
def placeRing (place : Option RingPlace) (s : State) : State :=
  { s with rw := { resetRingWriter with place := place, lowThreshold := s.rw.lowThreshold } }

/-- Base, capacity and indices in 19 bytes, 0 for an absent base or capacity (Table 12.1.6). -/
def ringPlaceData (rw : RingWriter) : List Byte :=
  optBytes 5 (rw.place.map RingPlace.base) ++ optBytes 2 (rw.place.map RingPlace.capacity) ++ beBytes 4 rw.reserve.toNat ++
    beBytes 4 rw.filled.toNat ++ beBytes 4 rw.release.toNat

/-- CONFIGURE_RING at RW with a slot count of 0 (R99). -/
def unconfigureRing (s : State) : Answer × State :=
  if ringBusy s then refuse .notIdle s else taken (ringPlaceData (placeRing none s).rw) (placeRing none s)

/-- CONFIGURE_RING at RW, checks in the order of R98; a slot count of 0 is handled by R99. -/
def configureRing (base slots : Nat) (s : State) : Answer × State :=
  let p : RingPlace := { base := base, capacity := slots }
  if slots = 0 then unconfigureRing s
  else if base % 64 ≠ 0 ∨ Config.addressSpace ≤ base ∨ slots = 1 ∨ 65535 < slots then refuse .badParam s
  else if ringBusy s then refuse .notIdle s
  else if s.wu.memoryLimit * Config.granuleBytes < p.regionEnd then refuse .range s
  else if placeConflicts s.wu p then refuse .ringConflict s
  else taken (ringPlaceData (placeRing (some p) s).rw) (placeRing (some p) s)

/-- CONFIGURE_RING (R98). -/
def execConfigureRing (base slots : Nat) (s : State) : Host.Outcome State Fault Refusal :=
  execute (.configureRing base slots) (configureRing base slots) s

/-- UNCONFIGURE_RING (R99). -/
def execUnconfigureRing (base : Nat) (s : State) : Host.Outcome State Fault Refusal :=
  execute (.unconfigureRing base) unconfigureRing s

/-! ## RELEASE_SLOTS -/

/-- A pending END record takes a slot that has become free (R107, R110). -/
def reservePendingEnd (s : State) : State :=
  if s.rw.pendingEnd.isSome && decide (1 ≤ freeSlots s.rw) then
    reserveEnd { s with rw := { s.rw with pendingEnd := none } }
  else s

/-- The indices and the free slot count in 14 bytes (Table 12.1.6). -/
def indexData (rw : RingWriter) : List Byte :=
  beBytes 4 rw.reserve.toNat ++ beBytes 4 rw.filled.toNat ++ beBytes 4 rw.release.toNat ++ beBytes 2 (freeSlots rw)

/-- RELEASE_SLOTS at RW, checks and effects in the order of R110. -/
def releaseSlots (count : Nat) (s : State) : Answer × State :=
  if 65535 < count then refuse .badParam s
  else if s.rw.place.isNone then refuse .noRing s
  else if (s.rw.filled - s.rw.release).toNat < count then refuse .badCount s
  else
    let s1 := { s with rw := { s.rw with release := s.rw.release + BitVec.ofNat 32 count } }
    let s2 := startCopies (reservePendingEnd s1)
    taken (indexData s2.rw) s2

/-- RELEASE_SLOTS (R110). -/
def execReleaseSlots (count : Nat) (s : State) : Host.Outcome State Fault Refusal :=
  execute (.releaseSlots count) (releaseSlots count) s

/-! ## READ_RING and SET_RING_LOW -/

/-- The number of slot table entries in a progress state (R102). -/
def slotsIn (rw : RingWriter) (p : Progress) : Nat := (rw.slots.filter fun x => decide (x.progress = p)).length

/-- The data of READ_RING (R113, Table 12.1.6). -/
def ringData (s : State) : List Byte :=
  let rw := s.rw
  let a := rw.account
  beBytes 1 (bits [rw.place.isSome, rw.pendingEnd.isSome, a.epoch.isSome, a.firstData.isSome, a.endSeq.isSome, inRingWait s]) ++
  optBytes 5 (rw.place.map RingPlace.base) ++ optBytes 2 (rw.place.map RingPlace.capacity) ++ beBytes 4 rw.reserve.toNat ++
  beBytes 4 rw.filled.toNat ++ beBytes 4 rw.release.toNat ++ beBytes 2 (freeSlots rw) ++ beBytes 2 rw.position ++
  beBytes 2 rw.lowThreshold ++ optBytes 4 rw.pendingEnd ++ optBytes 4 a.epoch ++ seqBytes a.firstData ++ beBytes 2 a.dataSlots ++
  seqBytes a.endSeq ++ beBytes 2 (slotsIn rw .reserved) ++ beBytes 2 (slotsIn rw .writing) ++ beBytes 2 (slotsIn rw .done)

/-- READ_RING (R113). -/
def execReadRing (s : State) : Host.Outcome State Fault Refusal := execute .readRing (fun s => taken (ringData s) s) s

/-- SET_RING_LOW at RW (R112). -/
def setRingLow (threshold : Nat) (s : State) : Answer × State :=
  if 65535 < threshold then refuse .badParam s
  else taken (beBytes 2 threshold) { s with rw := { s.rw with lowThreshold := threshold } }

/-- SET_RING_LOW (R112). -/
def execSetRingLow (threshold : Nat) (s : State) : Host.Outcome State Fault Refusal :=
  execute (.setRingLow threshold) (setRingLow threshold) s

/-! ## READ_EPOCH -/

/-- The data of READ_EPOCH for a record (R118, Table 12.1.6). -/
def logData (held : Nat) (r : LogRecord) (start : Nat) : List Byte :=
  let p := page start 8 r.spill
  beBytes 1 held ++ beBytes 4 r.epoch ++ beBytes 1 r.status.code ++ beBytes 1 (damageCode r.damage) ++
  beBytes 1 (bits [r.firstData.isSome, r.endSeq.isSome]) ++ beBytes 1 (bits [r.power, r.portReset]) ++
  beBytes 2 r.listed ++ beBytes 2 r.copied ++ beBytes 2 r.skipped ++ beBytes 2 r.urgent ++ seqBytes r.firstData ++
  seqBytes r.endSeq ++ beBytes 1 r.spill.length ++ beBytes 1 p.length ++ p.flatMap spillBytes

/-- READ_EPOCH at EC, checks in the order of R118. -/
def readEpoch (age start : Nat) (s : State) : Answer × State :=
  if 15 < age ∨ 63 < start then refuse .badParam s
  else
    match s.ec.log[age]? with
    | none => ({ status := .empty, data := beBytes 1 s.ec.log.length }, s)
    | some r => taken (logData s.ec.log.length r start) s

/-- READ_EPOCH (R118). -/
def execReadEpoch (age start : Nat) (s : State) : Host.Outcome State Fault Refusal :=
  execute (.readEpoch age start) (readEpoch age start) s

end Sys2Proof.Machine
end

