-- ==== Sys2Proof/Machine/Downstream.lean ====
section
/-! DEFINITION. The downstream port (chapter 8): grants, responses, expiries; with them the hold timer's expiry (R82) and
the microsecond tick (R169). -/

namespace Sys2Proof.Machine

/-! ## Grants -/

/-- The number of OUTSTANDING tags. -/
def outstandingTags (dp : DownstreamPort) : Nat :=
  (dp.tags.filter fun t => match t.state with
    | .outstanding _ _ => true
    | .expired => false).length

/-- The number of EXPIRED tags. -/
def expiredTags (dp : DownstreamPort) : Nat :=
  (dp.tags.filter fun t => match t.state with
    | .outstanding _ _ => false
    | .expired => true).length

/-- The lowest-numbered FREE tag (R150). -/
def freeTag (dp : DownstreamPort) : Option Nat :=
  (List.range Config.tags).find? fun n => dp.tags.all fun t => decide (t.number ≠ n)

/-- A choice of the arbiter: the request and the class queues and Copy Share counter that it leaves (R146, R147). -/
structure Choice where
  request : Request
  port : DownstreamPort

/-- The grant of the oldest background request sets the counter to 0 (R147). -/
def chooseBackground (dp : DownstreamPort) : Option Choice :=
  match dp.background with
  | [] => none
  | r :: rest => some { request := r, port := { dp with background := rest, shareCounter := 0 } }

/-- The grant of the oldest pass-through request counts while background work waits (R147). -/
def choosePass (dp : DownstreamPort) : Option Choice :=
  match dp.passThrough with
  | [] => none
  | r :: rest =>
    some { request := r
           port := { dp with
             passThrough := rest
             shareCounter := if dp.background.isEmpty then dp.shareCounter else dp.shareCounter + 1 } }

/-- The arbiter's choice (R146). -/
def choose (dp : DownstreamPort) : Option Choice :=
  match dp.urgent with
  | r :: rest => some { request := r, port := { dp with urgent := rest } }
  | [] =>
    if !dp.passThrough.isEmpty && !(!dp.background.isEmpty && decide (dp.copyShare ≤ dp.shareCounter)) then choosePass dp
    else chooseBackground dp

/-- The tag that a granted request takes, OUTSTANDING with its timer at the limit in force (R150, R151). -/
def newTag (n limit : Nat) (r : Request) : Tag :=
  { number := n, state := .outstanding limit 0, source := r.source, address := r.address, initiator := r.initiator,
    domain := r.domain, window := r.window }

/-- A grant, when a tag can be taken and a request waits; otherwise none is made (R146). -/
def grantNext (s : State) : State :=
  if outstandingTags s.dp < Config.outstandingLimit then
    match freeTag s.dp, choose s.dp with
    | some n, some c =>
      { s with
        dp := { c.port with tags := c.port.tags ++ [newTag n s.dp.responseLimit c.request] }
        out := { s.out with presented := s.out.presented ++ [(n, c.request)] } }
    | _, _ => s
  else s

/-- GRANT (R146). -/
def execGrant (s : State) : Host.Outcome State Fault Refusal := event grantNext s

/-! ## Completions -/

/-- The tag in use of a number. -/
def findTag (n : Nat) (s : State) : Option Tag := s.dp.tags.find? fun t => decide (t.number = n)

/-- A tag becomes FREE. -/
def dropTag (n : Nat) (s : State) : State :=
  { s with dp := { s.dp with tags := s.dp.tags.filter fun t => decide (t.number ≠ n) } }

/-- The completion of a pass-through request (R134, R135, R140, R156): reported to JU or EC; a DISCARD entry becomes FREE
without a response, any other is answered and returned as its stream allows. A REFUSED read has zero data. -/
def completePass (n : Nat) (outcome : UpOutcome) (data : List Byte) (excl : Option Bool) (s : State) : State :=
  match findEntry n s with
  | none => s
  | some e =>
    let s1 := completeWrite e s
    match e.delivery with
    | .discard => dropEntry n s1
    | .deliver =>
      let bytes :=
        match e.stream.direction, outcome with
        | .read, .okay => data
        | .read, .refused => List.replicate e.length 0#8
        | .write, _ => []
      let result :=
        match outcome with
        | .okay => excl
        | .refused => none
      let answered : TrackerEntry → TrackerEntry := fun e =>
        { e with phase := .answered, outcome := some outcome, readData := bytes, exclusiveResult := result }
      returnStream e.stream (changeEntry n answered s1)

/-- An OKAY response reported to the source of its request (R152). -/
def requestOkay (t : Tag) (r : Response) (s : State) : State :=
  match t.source with
  | .passRead n => completePass n .okay r.data r.exclusive s
  | .passWrite n => completePass n .okay r.data r.exclusive s
  | .copyRead q k => copyReadOkay q k r.data s
  | .dataWrite q _ => resolveArea q false s
  | .endSpill q _ => resolveArea q false s
  | .dataHeader q => finishSlot q s
  | .voidHeader q => finishSlot q s
  | .endHeader q => finishSlot q s

/-- The fault record of a pass-through request that failed: the tag's fields and the tracker entry's host address
(R153, R158). -/
def passFault (t : Tag) (n : Nat) (kind : FaultKind) (s : State) : State :=
  reportFault kind
    { initiator := t.initiator, direction := some t.source.direction, host := (findEntry n s).map TrackerEntry.host,
      domain := t.domain, window := t.window, memory := some t.address } s

/-- A failure reported to the source of its request: an ERROR response (R153) or an expiry (R154), which differ in the fault
kind of a pass-through request and in the damage reason of a copy read. -/
def requestFailed (t : Tag) (kind : FaultKind) (reason : DamageReason) (s : State) : State :=
  match t.source with
  | .passRead n => completePass n .refused [] none (passFault t n kind s)
  | .passWrite n => completePass n .refused [] none (passFault t n kind s)
  | .copyRead q k => copyReadFailed q k reason t.address s
  | .dataWrite q _ => resolveArea q true (recordFailed q t.address s)
  | .endSpill q _ => resolveArea q true (recordFailed q t.address s)
  | .dataHeader q => finishSlot q (recordFailed q t.address s)
  | .voidHeader q => finishSlot q (recordFailed q t.address s)
  | .endHeader q => finishSlot q (recordFailed q t.address s)

/-- A late response on an EXPIRED tag: the tag becomes FREE, the fault carries what the tag keeps, the host address is
absent (R155). -/
def lateOnTag (t : Tag) (s : State) : State :=
  reportFault .lateResponse
    { initiator := t.initiator, direction := some t.source.direction, domain := t.domain, window := t.window,
      memory := some t.address } (dropTag t.number s)

/-- A response of the memory controller is taken by the state of the tag it bears (R152, R153, R155). -/
def takeResponse (result : DsResult) (r : Response) (s : State) : State :=
  match findTag r.tag s with
  | none => reportFault .lateResponse { direction := some r.direction } s
  | some t =>
    match t.state with
    | .expired => lateOnTag t s
    | .outstanding _ _ =>
      match result with
      | .okay => requestOkay t r (dropTag t.number s)
      | .error => requestFailed t .downstreamError .copyError (dropTag t.number s)

/-- RESPONSE_OKAY (R152). -/
def execResponseOkay (r : Response) (s : State) : Host.Outcome State Fault Refusal := event (takeResponse .okay r) s

/-- RESPONSE_ERROR (R153). -/
def execResponseError (r : Response) (s : State) : Host.Outcome State Fault Refusal := event (takeResponse .error r) s

/-- LATE_RESPONSE (R155); on an OUTSTANDING tag it is no late response and is taken by its result. -/
def execLateResponse (result : DsResult) (r : Response) (s : State) : Host.Outcome State Fault Refusal :=
  event (takeResponse result r) s

/-! ## Expiries -/

/-- The response timer of an OUTSTANDING tag has reached its limit. -/
def Tag.due (t : Tag) : Bool :=
  match t.state with
  | .outstanding limit elapsed => decide (limit ≤ elapsed)
  | .expired => false

/-- A tag becomes EXPIRED and keeps its fields (R154). -/
def expireTag (n : Nat) (s : State) : State :=
  { s with dp := { s.dp with tags := s.dp.tags.map fun t => if t.number = n then { t with state := .expired } else t } }

/-- The expiry of a tag's response timer, when its time has come (R151, R154). -/
def expireResponse (n : Nat) (s : State) : State :=
  match findTag n s with
  | none => s
  | some t =>
    if t.due then
      let r : Report :=
        { event := .dsTimeouts, domain := t.domain, window := t.window, direction := some t.source.direction }
      requestFailed t .downstreamTimeout .copyTimeout (report r 1 (expireTag n s))
    else s

/-- RESPONSE_TIMER_EXPIRY (R154). -/
def execResponseTimerExpiry (tag : Nat) (s : State) : Host.Outcome State Fault Refusal := event (expireResponse tag) s

/-- The granule and epoch of a Hold Queue entry whose hold timer has reached its limit. -/
def HoldEntry.due (h : HoldEntry) : Option (Nat × Nat) :=
  match h.reason with
  | .own g e (.running limit elapsed) => if limit ≤ elapsed then some (g, e) else none
  | .own _ _ .stopped => none
  | .behind => none

/-- The expiry of the hold timer of the write in tracker entry n, when its time has come: its epoch is damaged with reason
HOLD_TIMEOUT and a COPY_FAILED fault gives the granule (R82). -/
def expireHold (n : Nat) (s : State) : State :=
  match (s.ce.holdQueue.find? fun h => decide (h.entry = n)).bind HoldEntry.due with
  | none => s
  | some (g, e) =>
    match bankOfEpoch e s with
    | none => s
    | some i => reportFault .copyFailed { granule := some g } (damageBank i .holdTimeout s)

/-- HOLD_TIMER_EXPIRY (R82). -/
def execHoldTimerExpiry (entry : Nat) (s : State) : Host.Outcome State Fault Refusal := event (expireHold entry) s

/-! ## The tick -/

/-- A running response timer counts a microsecond. -/
def Tag.tick (t : Tag) : Tag :=
  match t.state with
  | .outstanding limit elapsed => { t with state := .outstanding limit (elapsed + 1) }
  | .expired => t

/-- A running hold timer counts a microsecond. -/
def HoldEntry.tick (h : HoldEntry) : HoldEntry :=
  match h.reason with
  | .own g e (.running limit elapsed) => { h with reason := .own g e (.running limit (elapsed + 1)) }
  | .own _ _ .stopped => h
  | .behind => h

/-- The timestamp and every running timer count a microsecond (section 0.6, R160). -/
def countMicrosecond (s : State) : State :=
  { s with
    timestamp := s.timestamp + 1
    dp := { s.dp with tags := s.dp.tags.map Tag.tick }
    ce := { s.ce with holdQueue := s.ce.holdQueue.map HoldEntry.tick } }

/-- The outstanding entries of a direction filter (R169). -/
def occupancy (s : State) (filter : Option Direction) : Nat :=
  (s.up.tracker.filter fun e => decide (filter = none ∨ filter = some e.stream.direction)).length

/-- The per-tick reports (R169). -/
def tickReports (s : State) : State :=
  let s1 := report { event := .holdOccupancy } s.ce.holdQueue.length s
  let s2 := reportBy { event := .trackerOccupancy } (fun c => occupancy s c.direction) s1
  if inRingWait s then report { event := .ringWait } 1 s2 else s2

/-- A microsecond of the timebase. -/
def tick (s : State) : State := tickReports (countMicrosecond s)

/-- US_TICK (R169). -/
def execUsTick (s : State) : Host.Outcome State Fault Refusal := event tick s

end Sys2Proof.Machine
end

