-- ==== Sys2Proof/Machine/Settings.lean ====
section
/-! DEFINITION. The settings and table commands: READ_STATUS to SET_COPY_SHARE (codes 0x01 to 0x05) and the Domain Map and
Window Table commands (codes 0x10 to 0x16). -/

namespace Sys2Proof.Machine

/-! ## READ_STATUS -/

/-- The number of tracker entries in a state. -/
def entriesIn (s : State) (p : Phase) : Nat := (s.up.tracker.filter fun e => decide (e.phase = p)).length

/-- The data of READ_STATUS (R184, Table 12.1.6). -/
def statusData (s : State) : List Byte :=
  beBytes 1 s.wu.mode.code ++ beBytes 1 s.ec.journal.code ++
  beBytes 1 (bits [s.ec.powerCutPending, s.rw.place.isSome, s.pins.pwrwarn, s.pins.portRstN]) ++
  beBytes 1 s.ec.transparentWrites ++ bankBytes s.ju.bankA ++ bankBytes s.ju.bankB ++
  beBytes 1 s.ce.holdQueue.length ++ beBytes 1 s.up.portState.code ++
  beBytes 1 (entriesIn s .held) ++ beBytes 1 (entriesIn s .issued) ++ beBytes 1 (entriesIn s .answered) ++
  beBytes 1 (outstandingTags s.dp) ++ beBytes 2 (expiredTags s.dp) ++ beBytes 2 (freeSlots s.rw) ++
  beBytes 4 s.wu.memoryLimit ++ beBytes 2 s.dp.responseLimit ++ beBytes 2 s.ce.holdLimit ++ beBytes 1 s.dp.copyShare

/-- READ_STATUS (R184). -/
def execReadStatus (s : State) : Host.Outcome State Fault Refusal := execute .readStatus (fun s => taken (statusData s) s) s

/-! ## Settings -/

/-- Both journal banks are FREE. -/
def bothFree (s : State) : Bool := decide (s.ju.bankA.state = .free) && decide (s.ju.bankB.state = .free)

/-- SET_MODE at WU (R2). -/
def setMode (mode : Nat) (s : State) : Answer × State :=
  match modeOf mode with
  | none => refuse .badParam s
  | some .guarded => taken (beBytes 1 1) { s with wu := { s.wu with mode := .guarded } }
  | some .transparent =>
    if s.ec.journal = .off ∧ bothFree s = true then taken (beBytes 1 0) { s with wu := { s.wu with mode := .transparent } }
    else refuse .wrongMode s

/-- SET_MODE (R2). -/
def execSetMode (mode : Nat) (s : State) : Host.Outcome State Fault Refusal := execute (.setMode mode) (setMode mode) s

/-- SET_MEMORY_LIMIT at WU (R13). -/
def setMemoryLimit (limit : Nat) (s : State) : Answer × State :=
  if limit = 0 ∨ Config.granuleSpace < limit then refuse .badParam s
  else if anyActive s.wu = true ∨ s.rw.place.isSome = true then refuse .notIdle s
  else taken [] { s with wu := { s.wu with memoryLimit := limit } }

/-- SET_MEMORY_LIMIT (R13). -/
def execSetMemoryLimit (limit : Nat) (s : State) : Host.Outcome State Fault Refusal :=
  execute (.setMemoryLimit limit) (setMemoryLimit limit) s

/-- A limit in microseconds is out of range (R185). -/
def badLimit (n : Nat) : Bool := decide (n = 0) || decide (65535 < n)

/-- SET_TIMEOUTS at DP and CE (R185). -/
def setTimeouts (response hold : Nat) (s : State) : Answer × State :=
  if badLimit response || badLimit hold then refuse .badParam s
  else
    taken (beBytes 2 response ++ beBytes 2 hold)
      { s with dp := { s.dp with responseLimit := response }, ce := { s.ce with holdLimit := hold } }

/-- SET_TIMEOUTS (R185). -/
def execSetTimeouts (response hold : Nat) (s : State) : Host.Outcome State Fault Refusal :=
  execute (.setTimeouts response hold) (setTimeouts response hold) s

/-- SET_COPY_SHARE at DP (R148). -/
def setCopyShare (share : Nat) (s : State) : Answer × State :=
  if share = 0 ∨ 255 < share then refuse .badParam s
  else taken (beBytes 1 share) { s with dp := { s.dp with copyShare := share } }

/-- SET_COPY_SHARE (R148). -/
def execSetCopyShare (share : Nat) (s : State) : Host.Outcome State Fault Refusal :=
  execute (.setCopyShare share) (setCopyShare share) s

/-! ## Domain Map -/

/-- MAP_INITIATOR at WU (R4). -/
def mapInitiator (initiator domain : Nat) (s : State) : Answer × State :=
  if 63 < initiator then refuse .badParam s
  else
    match numberOr255 16 domain with
    | none => refuse .badParam s
    | some d => taken [] { s with wu := { s.wu with domainMap := s.wu.domainMap.setIfInBounds initiator d } }

/-- MAP_INITIATOR (R4). -/
def execMapInitiator (initiator domain : Nat) (s : State) : Host.Outcome State Fault Refusal :=
  execute (.mapInitiator initiator domain) (mapInitiator initiator domain) s

/-- The data of READ_DOMAIN_MAP: one byte per initiator, 255 for UNMAPPED (R4). -/
def domainMapData (wu : WindowUnit) : List Byte := wu.domainMap.toList.flatMap fun d => beBytes 1 (codeOr255 d)

/-- READ_DOMAIN_MAP (R4). -/
def execReadDomainMap (s : State) : Host.Outcome State Fault Refusal :=
  execute .readDomainMap (fun s => taken (domainMapData s.wu) s) s

/-! ## Window Table -/

/-- A window edge is no multiple of 4096 or above 2^40 (R15). -/
def badEdge (a : Nat) : Bool := decide (a % Config.granuleBytes ≠ 0) || decide (Config.addressSpace < a)

/-- An extent is out of range (R15, R19). -/
def badExtent (n : Nat) : Bool := decide (n = 0) || decide (65536 < n)

/-- The window that INSTALL_WINDOW names, none when a field but the window number is out of range (R15). -/
def windowOf (domain anchor growth extent base key journaled : Nat) : Option Window :=
  if 15 < domain ∨ badEdge anchor = true ∨ badEdge base = true ∨ badExtent extent = true then none
  else
    match growthOf growth, keyOf key, flagOf journaled with
    | some g, some k, some j =>
      some { domain := domain, anchor := anchor, growth := g, extent := extent, memBase := base, key := k, journaled := j }
    | _, _, _ => none

/-- INSTALL_WINDOW at WU, checks in the order of R14. -/
def installWindow (window domain anchor growth extent base key journaled : Nat) (s : State) : Answer × State :=
  if 63 < window then refuse .badParam s
  else
    match windowOf domain anchor growth extent base key journaled with
    | none => refuse .badParam s
    | some w =>
      if (windowAt s.wu window).isSome then refuse .inUse s
      else if !rangeFits s.wu.memoryLimit w then refuse .range s
      else if overlapsOther s.wu window w then refuse .overlap s
      else if ringConflict s.rw.place w then refuse .ringConflict s
      else taken [] (setWindow window (some w) s)

/-- INSTALL_WINDOW (R14). -/
def execInstallWindow (window domain anchor growth extent base key journaled : Nat) (s : State) :
    Host.Outcome State Fault Refusal :=
  execute (.installWindow window domain anchor growth extent base key journaled)
    (installWindow window domain anchor growth extent base key journaled) s

/-- REMOVE_WINDOW at WU (R21). -/
def removeWindow (window : Nat) (s : State) : Answer × State :=
  if 63 < window then refuse .badParam s else taken [] (setWindow window none s)

/-- REMOVE_WINDOW (R21). -/
def execRemoveWindow (window : Nat) (s : State) : Host.Outcome State Fault Refusal :=
  execute (.removeWindow window) (removeWindow window) s

/-- EXTEND_WINDOW at WU, checks in the order of R19. A number above 63 names no ACTIVE window. -/
def extendWindow (window extent : Nat) (s : State) : Answer × State :=
  match windowAt s.wu window with
  | none => refuse .badParam s
  | some v =>
    let w := { v with extent := extent }
    if badExtent extent then refuse .badParam s
    else if !rangeFits s.wu.memoryLimit w then refuse .range s
    else if overlapsOther s.wu window w then refuse .overlap s
    else if ringConflict s.rw.place w then refuse .ringConflict s
    else taken [] (setWindow window (some w) s)

/-- EXTEND_WINDOW (R19). -/
def execExtendWindow (window extent : Nat) (s : State) : Host.Outcome State Fault Refusal :=
  execute (.extendWindow window extent) (extendWindow window extent) s

/-- SET_KEY at WU, checks in the order of R20. A number above 63 names no ACTIVE window. -/
def setKey (window key : Nat) (s : State) : Answer × State :=
  match windowAt s.wu window, keyOf key with
  | some v, some k =>
    let w := { v with key := k }
    if ringConflict s.rw.place w then refuse .ringConflict s else taken [] (setWindow window (some w) s)
  | _, _ => refuse .badParam s

/-- SET_KEY (R20). -/
def execSetKey (window key : Nat) (s : State) : Host.Outcome State Fault Refusal :=
  execute (.setKey window key) (setKey window key) s

/-- The data of READ_WINDOW: the state, and for an ACTIVE window its fields (R22, Table 12.1.6). -/
def windowData (w : Option Window) : List Byte :=
  match w with
  | none => beBytes 1 0
  | some w =>
    beBytes 1 1 ++ beBytes 1 w.domain ++ beBytes 1 w.growth.code ++ beBytes 6 w.anchor ++ beBytes 3 w.extent ++
      beBytes 6 w.memBase ++ beBytes 1 w.key.code ++ beBytes 1 w.journaled.toNat

/-- READ_WINDOW at WU (R22). -/
def readWindow (window : Nat) (s : State) : Answer × State :=
  if 63 < window then refuse .badParam s else taken (windowData (windowAt s.wu window)) s

/-- READ_WINDOW (R22). -/
def execReadWindow (window : Nat) (s : State) : Host.Outcome State Fault Refusal :=
  execute (.readWindow window) (readWindow window) s

end Sys2Proof.Machine
end

