-- ==== Sys2Proof/Machine/Dispatch.lean ====
section
/-! DEFINITION. The effect of every command and event on everything but the queue: one arm per row of the opcode table. -/

namespace Sys2Proof.Machine

def exec (i : Instr) (s : State) : Host.Outcome State Fault Refusal :=
  match i with
  | .readStatus => Sys2Proof.Machine.execReadStatus s
  | .setMode mode => Sys2Proof.Machine.execSetMode mode s
  | .setMemoryLimit limit => Sys2Proof.Machine.execSetMemoryLimit limit s
  | .setTimeouts response hold => Sys2Proof.Machine.execSetTimeouts response hold s
  | .setCopyShare share => Sys2Proof.Machine.execSetCopyShare share s
  | .mapInitiator initiator domain => Sys2Proof.Machine.execMapInitiator initiator domain s
  | .readDomainMap => Sys2Proof.Machine.execReadDomainMap s
  | .installWindow window domain anchor growth extent base key journaled => Sys2Proof.Machine.execInstallWindow window domain anchor growth extent base key journaled s
  | .removeWindow window => Sys2Proof.Machine.execRemoveWindow window s
  | .extendWindow window extent => Sys2Proof.Machine.execExtendWindow window extent s
  | .setKey window key => Sys2Proof.Machine.execSetKey window key s
  | .readWindow window => Sys2Proof.Machine.execReadWindow window s
  | .journalStart epoch => Sys2Proof.Machine.execJournalStart epoch s
  | .cut => Sys2Proof.Machine.execCut s
  | .journalStop => Sys2Proof.Machine.execJournalStop s
  | .abandon => Sys2Proof.Machine.execAbandon s
  | .readBank bank start => Sys2Proof.Machine.execReadBank bank start s
  | .lookupGranule granule => Sys2Proof.Machine.execLookupGranule granule s
  | .readSpill bank start => Sys2Proof.Machine.execReadSpill bank start s
  | .configureRing base slots => Sys2Proof.Machine.execConfigureRing base slots s
  | .unconfigureRing base => Sys2Proof.Machine.execUnconfigureRing base s
  | .releaseSlots count => Sys2Proof.Machine.execReleaseSlots count s
  | .readRing => Sys2Proof.Machine.execReadRing s
  | .setRingLow threshold => Sys2Proof.Machine.execSetRingLow threshold s
  | .readEpoch age start => Sys2Proof.Machine.execReadEpoch age start s
  | .readFault => Sys2Proof.Machine.execReadFault s
  | .setCounter counter event domain window direction scope enable => Sys2Proof.Machine.execSetCounter counter event domain window direction scope enable s
  | .readCounter counter => Sys2Proof.Machine.execReadCounter counter s
  | .clearCounter counter => Sys2Proof.Machine.execClearCounter counter s
  | .setAlertEnable causes => Sys2Proof.Machine.execSetAlertEnable causes s
  | .readAlerts => Sys2Proof.Machine.execReadAlerts s
  | .ackAlerts causes => Sys2Proof.Machine.execAckAlerts causes s
  | .csNFall => Sys2Proof.Machine.execCsNFall s
  | .csNRise => Sys2Proof.Machine.execCsNRise s
  | .requestFrame bytes => Sys2Proof.Machine.execRequestFrame bytes s
  | .frameRefusal => Sys2Proof.Machine.execFrameRefusal s
  | .rstNAssert => Sys2Proof.Machine.execRstNAssert s
  | .rstNRelease => Sys2Proof.Machine.execRstNRelease s
  | .portRstNAssert => Sys2Proof.Machine.execPortRstNAssert s
  | .portRstNDeassert => Sys2Proof.Machine.execPortRstNDeassert s
  | .pwrwarnAssert => Sys2Proof.Machine.execPwrwarnAssert s
  | .pwrwarnDeassert => Sys2Proof.Machine.execPwrwarnDeassert s
  | .writeStaging w => Sys2Proof.Machine.execWriteStaging w s
  | .acceptance p => Sys2Proof.Machine.execAcceptance p s
  | .grant => Sys2Proof.Machine.execGrant s
  | .responseOkay r => Sys2Proof.Machine.execResponseOkay r s
  | .responseError r => Sys2Proof.Machine.execResponseError r s
  | .lateResponse result r => Sys2Proof.Machine.execLateResponse result r s
  | .responseTimerExpiry tag => Sys2Proof.Machine.execResponseTimerExpiry tag s
  | .holdTimerExpiry entry => Sys2Proof.Machine.execHoldTimerExpiry entry s
  | .usTick => Sys2Proof.Machine.execUsTick s
  | .responseByteShiftedOut => Sys2Proof.Machine.execResponseByteShiftedOut s

end Sys2Proof.Machine
end

