-- ==== Sys2Proof/Machine/Step.lean ====
section
/-! DEFINITION. One step: the command at the front of the queue is taken and run on the state with the queue's rest; on an
empty queue the bridge idles. -/

namespace Sys2Proof.Machine

/-- The state with a queue in place of its own. -/
def setPending (q : List Instr) (s : State) : State := { s with pending := q }

/-- One step of the bridge (DESIGN CHOICE: the queue and the idling, notes/assumptions/3.md). -/
def step (s : State) : Host.Outcome State Fault Refusal :=
  match s.pending with
  | [] => .next s
  | c :: rest => exec c (setPending rest s)

/-- The command that a table word spells put at the front of the queue; the opcode table gives no row bits, so no word
spells one. -/
def State.withFetchWord (s : State) (nbits w : Nat) : State :=
  match decodeTableWord nbits w with
  | none => s
  | some c => setPending (c :: s.pending) s

end Sys2Proof.Machine
end

