-- ==== Sys2Proof/Safety.lean ====
section
/-! DEFINITION. What statements about the bridge speak of: how a command answers, the checks of the table commands said
in the manual's own terms, and the invariants of the reachable states. -/

namespace Sys2Proof.Safety

open Sys2Proof.Machine

/-! ## Answers -/

/-- Command c, executed in s, gives status st and data, and the bridge is then u but for what the answer does to the
management port (`deliverAnswer`, R179). -/
def Answers (c : Instr) (st : Status) (data : List Byte) (s u : State) : Prop :=
  exec c s = .next (deliverAnswer c { status := st, data := data } u)

/-- Command c is answered with a status and no data, and changes nothing (R183). -/
def Refuses (c : Instr) (st : Status) (s : State) : Prop := Answers c st [] s s

/-! ## The management port, in the terms of chapter 11 -/

/-- A response frame without data: five bytes (R187). -/
def bareResponse (status tag : Byte) : List Byte :=
  [0x5A#8, status, tag, 0#8, crc8 [0x5A#8, status, tag, 0#8]]

/-- The state with another management port. -/
def withPort (mp : ManagementPort) (s : State) : State := { s with mp := mp }

/-- The bridge after n bytes have shifted out one after another. -/
def afterShifts : Nat → State → State
  | 0, s => s
  | n + 1, s =>
    match exec .responseByteShiftedOut s with
    | .next t => afterShifts n t
    | .fault _ => s
    | .refused _ => s

/-! ## Transactions, in the terms of chapter 7 -/

/-- The acceptance p is taken in s (R129, R130): it accepts t, with direction dir and the data and strobes of a write, into
tracker entry n; s0 is s with the staging buffer as the acceptance leaves it. -/
def Accepts (p : Presented) (dir : Direction) (t : Txn) (data : List Byte) (strobes : List Bool) (n : Nat) (s s0 : State) :
    Prop :=
  s.pins.rstN = true ∧ s.up.portState = .accepting ∧ freeEntry s = some n ∧
    match p with
    | .read u => dir = .read ∧ t = u ∧ data = [] ∧ strobes = [] ∧ s0 = s
    | .lastBeat =>
      dir = .write ∧ s.up.staging = some { txn := t, data := data, strobes := strobes } ∧ s.ce.holdQueue.length < 8 ∧
        s0 = { s with up := { s.up with staging := none } }

/-- The ACCEPTED report of an acceptance with its lookup result (R131). -/
def acceptedReport (dir : Direction) (r : LookupResult) : Report :=
  { event := .accepted, domain := r.domain, window := r.window, direction := some dir }

/-- The tag in use of a number is OUTSTANDING. -/
def OutstandingTag (n : Nat) (t : Tag) (s : State) : Prop :=
  findTag n s = some t ∧ ∃ limit elapsed, t.state = .outstanding limit elapsed

/-! ## Windows, in the terms of chapter 1 -/

/-- Two ranges [a, b) and [c, d) intersect (R17). -/
def Meet (a b c d : Nat) : Prop := a < d ∧ c < b

/-- The fields of an ACTIVE window lie in the ranges of Table 1.3.1. -/
def WindowFields (w : Window) : Prop :=
  w.domain ≤ 15 ∧ 1 ≤ w.extent ∧ w.extent ≤ 65536 ∧ w.anchor % 4096 = 0 ∧ w.anchor ≤ 2 ^ 40 ∧
    w.memBase % 4096 = 0 ∧ w.memBase ≤ 2 ^ 40

/-- Both ranges of the window fit (Table 1.6.1). -/
def Fits (limit : Nat) (w : Window) : Prop :=
  match w.growth with
  | .up => w.anchor + w.extent * 4096 ≤ 2 ^ 40 ∧ w.memBase + w.extent * 4096 ≤ limit * 4096
  | .down => w.extent * 4096 ≤ w.anchor ∧ w.extent * 4096 ≤ w.memBase ∧ w.memBase ≤ limit * 4096

/-- As window number n, w overlaps the host range of another ACTIVE window of its domain (R17). -/
def Overlaps (wu : WindowUnit) (n : Nat) (w : Window) : Prop :=
  ∃ m v, m ≠ n ∧ windowAt wu m = some v ∧ v.domain = w.domain ∧ Meet w.hostLow w.hostEnd v.hostLow v.hostEnd

/-- The window is READ_WRITE and its memory range intersects the configured ring region (R18). -/
def RingConflict (place : Option RingPlace) (w : Window) : Prop :=
  w.key = .readWrite ∧
    ∃ p, place = some p ∧ Meet w.memLow w.memEnd p.base (p.base + p.capacity * 4160)

/-! ## Invariants -/

/-- Every command that waits can be presented. -/
def QueueInv (s : State) : Prop := ∀ c ∈ s.pending, c.wf = true

/-- A bank's own consistency: a FREE bank holds the FREE values, any other holds an epoch in range (R25, section 3.2). -/
def BankShape (b : Bank) : Prop :=
  (b.state = .free → b = freeBank) ∧
    (b.state ≠ .free → ∃ e, b.epoch = some e ∧ 1 ≤ e ∧ e ≤ 4294967295)

/-- The journal: bank shapes, at most one OPEN and at most one cut bank, OPEN exactly while RECORDING, distinct epochs,
Power-Cut Pending only behind a cut bank, and nothing open or cut in TRANSPARENT mode (R2, R25, R27, R49, R51, R63). -/
structure JournalInv (s : State) : Prop where
  shapeA : BankShape s.ju.bankA
  shapeB : BankShape s.ju.bankB
  oneOpen : ¬ (s.ju.bankA.state = .opened ∧ s.ju.bankB.state = .opened)
  oneCut : ¬ (s.ju.bankA.state.isCut = true ∧ s.ju.bankB.state.isCut = true)
  openIffRecording : s.ec.journal = .recording ↔ (s.ju.bankA.state = .opened ∨ s.ju.bankB.state = .opened)
  epochsDiffer : ∀ e, s.ju.bankA.epoch = some e → s.ju.bankB.epoch ≠ some e
  heldCut : s.ec.powerCutPending = true →
    s.ec.journal = .recording ∧ (s.ju.bankA.state.isCut = true ∨ s.ju.bankB.state.isCut = true)
  transparent : s.wu.mode = .transparent →
    s.ec.journal = .off ∧ s.ju.bankA.state = .free ∧ s.ju.bankB.state = .free

/-- The Hold Queue: empty without a SETTLING or DRAINING bank; every OWN entry waits on a granule listed in that bank;
nothing that could be released waits (R73, R78, R80). -/
structure HoldInv (s : State) : Prop where
  emptyWithoutBank : holdBank s = none → s.ce.holdQueue = []
  ownListed : ∀ h ∈ s.ce.holdQueue, ∀ g e, h.waitsOn = some (g, e) →
    ∃ i, holdBank s = some i ∧ (bank s i).epoch = some e ∧ ((bank s i).entryOf g).isSome = true
  nothingReleasable : (scanHolds (granuleResolved s) [] s.ce.holdQueue).2 = []

/-- A bank's two lists (R38, R39). -/
structure ListsInv (b : Bank) : Prop where
  listedOnce : (b.dirty.map DirtyEntry.granule).Nodup
  listLimit : b.dirty.length ≤ 4096
  listedCount : b.listed = b.dirty.length
  spillAtFull : b.spill ≠ [] → b.dirty.length = 4096
  spilledOnce : (b.spill.map SpillEntry.window).Nodup
  spillLimit : b.spill.length ≤ 64
  spillRange : ∀ e ∈ b.spill, e.window ≤ 63 ∧ e.low ≤ e.high

/-- The lists of both banks. -/
def DirtyInv (s : State) : Prop := ListsInv s.ju.bankA ∧ ListsInv s.ju.bankB

/-- The tables of WU and the place of the ring: every ACTIVE window well formed, inside the Memory Limit, apart from the
other windows of its domain and, when READ_WRITE, from the ring region (R13, R16, R17, R18, R98). -/
structure WindowInv (s : State) : Prop where
  limit : 1 ≤ s.wu.memoryLimit ∧ s.wu.memoryLimit ≤ 2 ^ 28
  domains : ∀ i d, domainOf s.wu i = some d → d ≤ 15
  fields : ∀ n w, windowAt s.wu n = some w → WindowFields w
  fits : ∀ n w, windowAt s.wu n = some w → Fits s.wu.memoryLimit w
  apart : ∀ n w, windowAt s.wu n = some w → ¬ Overlaps s.wu n w
  offRing : ∀ n w, windowAt s.wu n = some w → ¬ RingConflict s.rw.place w
  ring : ∀ p, s.rw.place = some p →
    p.base % 64 = 0 ∧ 2 ≤ p.capacity ∧ p.capacity ≤ 65535 ∧ p.base + p.capacity * 4160 ≤ s.wu.memoryLimit * 4096

/-- Slots in sequence order from a sequence on, at consecutive positions that end just before the next position. -/
def SlotsFrom (capacity position : Nat) : Seq → List Slot → Prop
  | _, [] => True
  | q, x :: xs =>
    x.seq = q ∧ x.position < capacity ∧ (x.position + xs.length + 1) % capacity = position ∧
      SlotsFrom capacity position (q + 1) xs

/-- The ring's indices and slot table (R100, R101, R102, R106, R107). -/
structure RingInv (s : State) : Prop where
  unplaced : s.rw.place = none →
    s.rw.reserve = 0 ∧ s.rw.filled = 0 ∧ s.rw.release = 0 ∧ s.rw.position = 0 ∧ s.rw.slots = []
  capacity : ∀ p, s.rw.place = some p → 2 ≤ p.capacity ∧ p.capacity ≤ 65535
  used : ∀ p, s.rw.place = some p → (s.rw.reserve - s.rw.release).toNat ≤ p.capacity
  unfilled : (s.rw.filled - s.rw.release).toNat + s.rw.slots.length = (s.rw.reserve - s.rw.release).toNat
  position : ∀ p, s.rw.place = some p → s.rw.position < p.capacity
  slots : ∀ p, s.rw.place = some p → SlotsFrom p.capacity s.rw.position s.rw.filled s.rw.slots
  headNotDone : ∀ x xs, s.rw.slots = x :: xs → x.progress ≠ .done
  markerWaits : s.rw.pendingEnd.isSome = true → freeSlots s.rw = 0

/-- The bounds of the tables and queues that have one (R70, R71, R83, R115, R133, R146, R147, R150, R151, R161). -/
structure CapacityInv (s : State) : Prop where
  trackerNumbers : (s.up.tracker.map TrackerEntry.number).Nodup
  trackerRange : ∀ e ∈ s.up.tracker, e.number < 48
  tracker : s.up.tracker.length ≤ 48
  holds : s.ce.holdQueue.length ≤ 8
  copies : s.ce.copies.length ≤ 4
  log : s.ec.log.length ≤ 16
  faults : s.fq.records.length ≤ 8
  lost : s.fq.lost ≤ 255
  lostWhenFull : 0 < s.fq.lost → s.fq.records.length = 8
  tagNumbers : (s.dp.tags.map Tag.number).Nodup
  tagRange : ∀ t ∈ s.dp.tags, t.number < 256
  tags : s.dp.tags.length ≤ 256
  outstanding : outstandingTags s.dp ≤ 64
  share : 1 ≤ s.dp.copyShare ∧ s.dp.copyShare ≤ 255
  shareCounter : s.dp.shareCounter ≤ 255
  shareIdle : s.dp.background = [] → s.dp.shareCounter = 0
  limits : 1 ≤ s.dp.responseLimit ∧ s.dp.responseLimit ≤ 65535 ∧ 1 ≤ s.ce.holdLimit ∧ s.ce.holdLimit ≤ 65535

/-- Every invariant above. -/
structure Inv (s : State) : Prop where
  journal : JournalInv s
  hold : HoldInv s
  dirty : DirtyInv s
  window : WindowInv s
  ring : RingInv s
  capacity : CapacityInv s

end Sys2Proof.Safety
end

