-- ==== Sys2Proof/Certificates/Slice0/Obligations.lean ====
section
/-! DEFINITION. The statements about the bridge, for the provers. Each docstring names the rules it formalises. -/

section

open Sys2Proof Sys2Proof.Machine Sys2Proof.Safety

/-! ## The queue of commands -/

/-- A step runs the command at the front of the queue on the state with the queue's rest, and idles on an empty queue (the
model's own queue, notes/assumptions/3.md). -/
def Obligations.StepTakesTheFrontCommand : Prop :=
  ∀ s : State,
    (∀ c q, s.pending = c :: q → step s = exec c (setPending q s)) ∧ (s.pending = [] → step s = .next s)

/-- Every command completes in every state and leaves the queue alone (section 11.4: every command is taken, R183; the queue is
the model's, notes/assumptions/3.md). -/
def Obligations.EveryCommandCompletes : Prop :=
  ∀ (c : Instr) (s : State), ∃ t, exec c s = .next t ∧ t.pending = s.pending

/-! ## The management port -/

/-- Reading the code and the parameters of a well-formed management command gives that command back, whatever its operands
(R187, Tables 11.4.1 and 12.1.5). -/
def Obligations.ManagementEncodingRoundTrip : Prop :=
  ∀ (i : Instr) (code : Byte) (params : List Byte),
    i.wf = true → encode i = some (code, params) →
      commandOf code params = some i ∧ paramLength code = some params.length ∧ params.length ≤ 60

/-- The request frame of a well-formed management command, shifted into an exchange from its first byte, leaves exactly that
command awaiting its execution, and nothing else changes (R177, R178). -/
def Obligations.RequestFrameCarriesItsCommand : Prop :=
  ∀ (i : Instr) (code tag : Byte) (params : List Byte) (s : State),
    i.wf = true → encode i = some (code, params) →
    s.pins.rstN = true → s.mp.exchange = .receiving → s.mp.received = [] →
    ∃ f : Frame, f.command = some i ∧ f.refusal = none ∧ f.tag = tag ∧
      exec (.requestFrame (requestFrameOf code tag params)) s =
        .next (withPort { s.mp with exchange := .waiting, awaiting := some f } s)

/-- The judgement of a request frame byte by byte (section 11.2, Table 11.2.1): ignored outside RECEIVING; well formed; bad at
byte 0, at the length byte, at the CRC byte; unfinished; and a frame may come in pieces. That a BAD_FRAME response is composed
in the event of the bad byte is notes/assumptions/10.md. -/
def Obligations.RequestFrameJudged : Prop :=
  ∀ s : State, s.pins.rstN = true →
    (∀ bytes, s.mp.exchange ≠ .receiving → exec (.requestFrame bytes) s = .next s) ∧
    (∀ xs ys t, exec (.requestFrame xs) s = .next t →
      exec (.requestFrame (xs ++ ys)) s = exec (.requestFrame ys) t) ∧
    (s.mp.exchange = .receiving → s.mp.received = [] →
      (∀ code tag params filler, params.length ≤ 60 →
        exec (.requestFrame (requestFrameOf code tag params ++ filler)) s =
          .next (withPort { s.mp with
            exchange := .waiting, awaiting := some { code := code, tag := tag, params := params } } s)) ∧
      (∀ b rest, b ≠ 0xA5#8 →
        exec (.requestFrame (b :: rest)) s =
          .next (withPort { s.mp with exchange := .responding, response := bareResponse 0x01#8 0#8 } s)) ∧
      (∀ code tag len rest, 60 < len.toNat →
        exec (.requestFrame (0xA5#8 :: code :: tag :: len :: rest)) s =
          .next (withPort { s.mp with exchange := .responding, response := bareResponse 0x01#8 tag } s)) ∧
      (∀ code tag params crc filler, params.length ≤ 60 →
        crc ≠ crc8 (0xA5#8 :: code :: tag :: BitVec.ofNat 8 params.length :: params) →
        exec (.requestFrame
            (0xA5#8 :: code :: tag :: BitVec.ofNat 8 params.length :: (params ++ crc :: filler))) s =
          .next (withPort { s.mp with exchange := .responding, response := bareResponse 0x01#8 tag } s)) ∧
      (∀ code tag params k, params.length ≤ 60 → k < 5 + params.length →
        exec (.requestFrame ((requestFrameOf code tag params).take k)) s =
          .next (withPort { s.mp with received := (requestFrameOf code tag params).take k } s)))

/-- What the port composes outside the bad frame: the refusal of a well-formed frame of an unknown code or of a wrong
parameter length, and the response to an execution, which reaches the controller only if the exchange still waits (R178, R179,
section 11.2). That an execution no frame awaits is recorded alone is notes/assumptions/1.md. -/
def Obligations.ResponsesComposed : Prop :=
  ∀ (s : State) (f : Frame),
    (s.pins.rstN = true → s.mp.awaiting = some f →
      (s.mp.exchange = .waiting → paramLength f.code = none →
        exec .frameRefusal s = .next (withPort { s.mp with
          exchange := .responding, received := [], awaiting := none, response := bareResponse 0x02#8 f.tag } s)) ∧
      (∀ n, s.mp.exchange = .waiting → paramLength f.code = some n → n ≠ f.params.length →
        exec .frameRefusal s = .next (withPort { s.mp with
          exchange := .responding, received := [], awaiting := none, response := bareResponse 0x03#8 f.tag } s)) ∧
      (paramLength f.code = some f.params.length → exec .frameRefusal s = .next s)) ∧
    (∀ (c : Instr) (ans : Answer),
      (s.mp.awaiting = none → deliverAnswer c ans s = withPort { s.mp with answer := some ans } s) ∧
      (s.mp.awaiting = some f → f.command ≠ some c →
        deliverAnswer c ans s = withPort { s.mp with answer := some ans } s) ∧
      (s.mp.awaiting = some f → f.command = some c → s.mp.exchange ≠ .waiting →
        deliverAnswer c ans s = withPort { s.mp with awaiting := none, answer := some ans } s) ∧
      (s.mp.awaiting = some f → f.command = some c → s.mp.exchange = .waiting →
        ∃ body, body = 0x5A#8 :: BitVec.ofNat 8 ans.status.code :: f.tag :: BitVec.ofNat 8 ans.data.length :: ans.data ∧
          deliverAnswer c ans s = withPort { s.mp with
            exchange := .responding, received := [], awaiting := none, response := body ++ [crc8 body],
            answer := some ans } s))

/-- CS_N: a fall opens an exchange, SHUT_OUT while a command awaits its execution; a rise ends it in IDLE, and the awaited
command still executes, its response discarded (R181, R182, section 11.2). -/
def Obligations.ChipSelect : Prop :=
  ∀ s : State,
    (s.pins.csN = true → s.pins.rstN = true →
      exec .csNFall s = .next (withPort { s.mp with
        exchange := if s.mp.awaiting.isSome then .shutOut else .receiving, received := [], response := [],
        sdo := some 0#8 } { s with pins := { s.pins with csN := false } })) ∧
    (s.pins.csN = true → s.pins.rstN = false →
      exec .csNFall s = .next { s with pins := { s.pins with csN := false } }) ∧
    (s.pins.csN = false →
      ∃ mp, exec .csNRise s = .next (withPort mp { s with pins := { s.pins with csN := true } }) ∧
        mp.exchange = .idle ∧ mp.received = [] ∧ mp.response = [] ∧ mp.sdo = none ∧ mp.answer = s.mp.answer ∧
        (∀ f, s.mp.awaiting = some f → f.refusal = none → mp.awaiting = some f) ∧
        (∀ (c : Instr) (ans : Answer) (u : State), u.mp = mp →
          (deliverAnswer c ans u).mp.exchange = .idle ∧ (deliverAnswer c ans u).mp.response = []) ∧
        (∀ u v, u.mp = mp → exec .frameRefusal u = .next v → v.mp.exchange = .idle ∧ v.mp.response = []))

/-- What shifts out on SDO: a response to its end, in order, then 0x00; 0x00 in every exchange without one; nothing while IDLE
(R180, Table 11.2.1). -/
def Obligations.ResponseShiftsOut : Prop :=
  ∀ s : State, s.pins.rstN = true →
    (∀ b rest, s.mp.exchange = .responding → s.mp.response = b :: rest →
      exec .responseByteShiftedOut s = .next (withPort { s.mp with
        exchange := if rest = [] then .spent else .responding, response := rest, sdo := some b } s) ∧
      (∀ k, k < (b :: rest).length → (afterShifts (k + 1) s).mp.sdo = (b :: rest)[k]?) ∧
      (afterShifts (b :: rest).length s).mp.exchange = .spent) ∧
    (s.mp.exchange = .receiving ∨ s.mp.exchange = .waiting ∨ s.mp.exchange = .spent ∨ s.mp.exchange = .shutOut →
      exec .responseByteShiftedOut s = .next (withPort { s.mp with sdo := some 0#8 } s)) ∧
    (s.mp.exchange = .idle → exec .responseByteShiftedOut s = .next s)

/-! ## Settings and tables -/

/-- SET_MODE (R2). -/
def Obligations.SetModeRule : Prop :=
  ∀ (m : Nat) (s : State), s.pins.rstN = true →
    (1 < m → Refuses (.setMode m) .badParam s) ∧
    (m = 1 → Answers (.setMode m) .ok [1#8] s { s with wu := { s.wu with mode := .guarded } }) ∧
    (m = 0 → s.ec.journal = .off → s.ju.bankA.state = .free → s.ju.bankB.state = .free →
      Answers (.setMode m) .ok [0#8] s { s with wu := { s.wu with mode := .transparent } }) ∧
    (m = 0 → ¬ (s.ec.journal = .off ∧ s.ju.bankA.state = .free ∧ s.ju.bankB.state = .free) →
      Refuses (.setMode m) .wrongMode s) ∧
    (m = s.wu.mode.code → JournalInv s → Answers (.setMode m) .ok [BitVec.ofNat 8 m] s s)

/-- MAP_INITIATOR and READ_DOMAIN_MAP (R4). -/
def Obligations.DomainMapRule : Prop :=
  ∀ s : State, s.pins.rstN = true →
    (∀ i d, 63 < i ∨ (15 < d ∧ d ≠ 255) → Refuses (.mapInitiator i d) .badParam s) ∧
    (∀ i d, i ≤ 63 → d ≤ 15 →
      Answers (.mapInitiator i d) .ok [] s
        { s with wu := { s.wu with domainMap := s.wu.domainMap.setIfInBounds i (some d) } }) ∧
    (∀ i, i ≤ 63 →
      Answers (.mapInitiator i 255) .ok [] s
        { s with wu := { s.wu with domainMap := s.wu.domainMap.setIfInBounds i none } }) ∧
    ∃ data, data.length = 64 ∧ Answers .readDomainMap .ok data s s ∧
      ∀ i, i ≤ 63 → data[i]? = some (BitVec.ofNat 8 ((domainOf s.wu i).getD 255))

/-- The Memory Limit: SET_MEMORY_LIMIT, its value after reset, that a port reset keeps it and that lookup does not consult
it (R13). -/
def Obligations.MemoryLimitRule : Prop :=
  (∀ (l : Nat) (s : State), s.pins.rstN = true →
    (l = 0 ∨ 2 ^ 28 < l → Refuses (.setMemoryLimit l) .badParam s) ∧
    (1 ≤ l → l ≤ 2 ^ 28 → (∃ n w, windowAt s.wu n = some w) ∨ s.rw.place ≠ none →
      Refuses (.setMemoryLimit l) .notIdle s) ∧
    (1 ≤ l → l ≤ 2 ^ 28 → (∀ n, windowAt s.wu n = none) → s.rw.place = none →
      Answers (.setMemoryLimit l) .ok [] s { s with wu := { s.wu with memoryLimit := l } })) ∧
  (∀ s t, exec .portRstNAssert s = .next t → t.wu.memoryLimit = s.wu.memoryLimit) ∧
  (∀ s t, s.pins.rstN = true → exec .rstNAssert s = .next t → t.wu.memoryLimit = 2 ^ 28) ∧
  (∀ wu l dir t, lookup { wu with memoryLimit := l } dir t = lookup wu dir t)

/-- INSTALL_WINDOW: the checks in their order, each with its condition, and the window installed (R14 to R18). -/
def Obligations.InstallWindowRule : Prop :=
  ∀ s : State, s.pins.rstN = true →
    (∀ n d a g e b k j,
      63 < n ∨ 15 < d ∨ a % 4096 ≠ 0 ∨ 2 ^ 40 < a ∨ b % 4096 ≠ 0 ∨ 2 ^ 40 < b ∨ 1 < g ∨ e = 0 ∨ 65536 < e ∨ 2 < k ∨ 1 < j →
        Refuses (.installWindow n d a g e b k j) .badParam s) ∧
    (∀ (n : Nat) (w : Window) (c : Instr), n ≤ 63 → WindowFields w →
      c = .installWindow n w.domain w.anchor w.growth.code w.extent w.memBase w.key.code w.journaled.toNat →
      (windowAt s.wu n ≠ none → Refuses c .inUse s) ∧
      (windowAt s.wu n = none →
        (¬ Fits s.wu.memoryLimit w → Refuses c .range s) ∧
        (Fits s.wu.memoryLimit w → Overlaps s.wu n w → Refuses c .overlap s) ∧
        (Fits s.wu.memoryLimit w → ¬ Overlaps s.wu n w → RingConflict s.rw.place w → Refuses c .ringConflict s) ∧
        (Fits s.wu.memoryLimit w → ¬ Overlaps s.wu n w → ¬ RingConflict s.rw.place w →
          Answers c .ok [] s { s with wu := { s.wu with windows := s.wu.windows.setIfInBounds n (some w) } })))

/-- EXTEND_WINDOW: the checks in their order; the extent alone changes and no address that stays inside moves; the extent in
force is always taken (R19). -/
def Obligations.ExtendWindowRule : Prop :=
  ∀ (s : State) (n e : Nat), s.pins.rstN = true →
    (63 < n ∨ windowAt s.wu n = none ∨ e = 0 ∨ 65536 < e → Refuses (.extendWindow n e) .badParam s) ∧
    (∀ v w, windowAt s.wu n = some v → 1 ≤ e → e ≤ 65536 → w = { v with extent := e } →
      (¬ Fits s.wu.memoryLimit w → Refuses (.extendWindow n e) .range s) ∧
      (Fits s.wu.memoryLimit w → Overlaps s.wu n w → Refuses (.extendWindow n e) .overlap s) ∧
      (Fits s.wu.memoryLimit w → ¬ Overlaps s.wu n w → RingConflict s.rw.place w →
        Refuses (.extendWindow n e) .ringConflict s) ∧
      (Fits s.wu.memoryLimit w → ¬ Overlaps s.wu n w → ¬ RingConflict s.rw.place w →
        Answers (.extendWindow n e) .ok [] s
          { s with wu := { s.wu with windows := s.wu.windows.setIfInBounds n (some w) } } ∧
        ∀ h, v.contains h = true → w.contains h = true → w.relocate h = v.relocate h) ∧
      (WindowInv s → e = v.extent → Answers (.extendWindow n e) .ok [] s s))

/-- SET_KEY: the key alone changes (R20). -/
def Obligations.SetKeyRule : Prop :=
  ∀ (s : State) (n k : Nat), s.pins.rstN = true →
    (63 < n ∨ windowAt s.wu n = none ∨ 2 < k → Refuses (.setKey n k) .badParam s) ∧
    (∀ v w key, windowAt s.wu n = some v → k = Key.code key → w = { v with key := key } →
      (RingConflict s.rw.place w → Refuses (.setKey n k) .ringConflict s) ∧
      (¬ RingConflict s.rw.place w →
        Answers (.setKey n k) .ok [] s
          { s with wu := { s.wu with windows := s.wu.windows.setIfInBounds n (some w) } }))

/-- REMOVE_WINDOW frees a window whatever it was, and READ_WINDOW gives it back (R21, R22). -/
def Obligations.RemoveAndReadWindow : Prop :=
  ∀ (s : State) (n : Nat), s.pins.rstN = true →
    (63 < n → Refuses (.removeWindow n) .badParam s ∧ Refuses (.readWindow n) .badParam s) ∧
    (n ≤ 63 →
      Answers (.removeWindow n) .ok [] s
        { s with wu := { s.wu with windows := s.wu.windows.setIfInBounds n none } } ∧
      (windowAt s.wu n = none → Answers (.readWindow n) .ok [0#8] s s) ∧
      (∀ w, windowAt s.wu n = some w →
        ∃ data, data.length = 20 ∧ Answers (.readWindow n) .ok data s s ∧
          data = [1#8, BitVec.ofNat 8 w.domain, BitVec.ofNat 8 w.growth.code] ++ beBytes 6 w.anchor ++ beBytes 3 w.extent ++
            beBytes 6 w.memBase ++ [BitVec.ofNat 8 w.key.code, BitVec.ofNat 8 w.journaled.toNat]))

/-- SET_TIMEOUTS and SET_COPY_SHARE: a value out of range changes nothing; otherwise the settings change, and no running timer
and no counter with them (R148, R185). -/
def Obligations.LimitsAndShareRule : Prop :=
  ∀ s : State, s.pins.rstN = true →
    (∀ r h, r = 0 ∨ 65535 < r ∨ h = 0 ∨ 65535 < h → Refuses (.setTimeouts r h) .badParam s) ∧
    (∀ r h, 1 ≤ r → r ≤ 65535 → 1 ≤ h → h ≤ 65535 →
      Answers (.setTimeouts r h) .ok (beBytes 2 r ++ beBytes 2 h) s
        { s with dp := { s.dp with responseLimit := r }, ce := { s.ce with holdLimit := h } }) ∧
    (∀ n, n = 0 ∨ 255 < n → Refuses (.setCopyShare n) .badParam s) ∧
    (∀ n, 1 ≤ n → n ≤ 255 →
      Answers (.setCopyShare n) .ok [BitVec.ofNat 8 n] s { s with dp := { s.dp with copyShare := n } })

/-! ## Lookup -/

/-- The MALFORMED check in both Bridge Modes, what it records, and that a transaction which passes lies in one host granule
and in one memory granule (R8). -/
def Obligations.MalformedCheck : Prop :=
  ∀ (s : State) (dir : Direction) (t : Txn) (bad : Prop),
    (bad ↔ t.length = 0 ∨ 256 < t.length ∨ 4096 < t.host % 4096 + t.length ∨ t.beats ≠ t.length) →
    ((lookup s.wu dir t).refusal = some .malformed ↔ bad) ∧
    (bad → (lookup s.wu dir t).domain = none ∧ (lookup s.wu dir t).window = none ∧ (lookup s.wu dir t).memory = none) ∧
    (¬ bad → t.host < 2 ^ 40 →
      t.host + t.length ≤ 2 ^ 40 ∧ t.host / 4096 = (t.host + t.length - 1) / 4096) ∧
    (¬ bad → s.wu.mode = .transparent →
      lookup s.wu dir t =
        { refusal := none, domain := none, window := none, memory := some t.host, journaled := false }) ∧
    (¬ bad → WindowInv s → ∀ m, (lookup s.wu dir t).memory = some m →
      m / 4096 = (m + t.length - 1) / 4096 ∧ m % 4096 = t.host % 4096)

/-- Lookup in GUARDED mode: the four checks in their order, with the fields each leaves recorded, the one window that can
qualify, its relocation and its key decision (R9, R10, R11). -/
def Obligations.GuardedLookup : Prop :=
  ∀ (s : State) (dir : Direction) (t : Txn),
    s.wu.mode = .guarded → WindowInv s →
    (t.length = 0 ∨ 256 < t.length ∨ 4096 < t.host % 4096 + t.length ∨ t.beats ≠ t.length →
      lookup s.wu dir t =
        { refusal := some .malformed, domain := none, window := none, memory := none, journaled := false }) ∧
    (1 ≤ t.length → t.length ≤ 256 → t.host % 4096 + t.length ≤ 4096 → t.beats = t.length →
      (domainOf s.wu t.initiator = none →
        lookup s.wu dir t =
          { refusal := some .noDomain, domain := none, window := none, memory := none, journaled := false }) ∧
      (∀ d, domainOf s.wu t.initiator = some d →
        ((∀ n w, windowAt s.wu n = some w → w.domain = d → ¬ (w.hostLow ≤ t.host ∧ t.host < w.hostEnd)) →
          lookup s.wu dir t =
            { refusal := some .noWindow, domain := some d, window := none, memory := none, journaled := false }) ∧
        (∀ n w, windowAt s.wu n = some w → w.domain = d → w.hostLow ≤ t.host → t.host < w.hostEnd →
          ∃ refusal,
            lookup s.wu dir t =
              { refusal := refusal, domain := some d, window := some n,
                memory := some (match w.growth with
                  | .up => w.memBase + (t.host - w.anchor)
                  | .down => w.memBase - (w.anchor - t.host)),
                journaled := w.journaled } ∧
            (w.key = .readWrite ∨ (w.key = .read ∧ dir = .read) → refusal = none) ∧
            (w.key = .none ∨ (w.key = .read ∧ dir = .write) → refusal = some .keyDenied))))

/-! ## Commands that read -/

/-- READ_STATUS and READ_RING give the state as it stands in 33 and 50 bytes and change nothing (R113, R184, Table 12.1.6). -/
def Obligations.ReadStatusAndRing : Prop :=
  ∀ (s : State) (banks status ring : List Byte), s.pins.rstN = true →
    banks = beBytes 1 s.ju.bankA.state.code ++ beBytes 4 (s.ju.bankA.epoch.getD 0) ++
      beBytes 1 s.ju.bankB.state.code ++ beBytes 4 (s.ju.bankB.epoch.getD 0) →
    status = beBytes 1 s.wu.mode.code ++ beBytes 1 s.ec.journal.code ++
      beBytes 1 (s.ec.powerCutPending.toNat + 2 * s.rw.place.isSome.toNat + 4 * s.pins.pwrwarn.toNat +
        8 * s.pins.portRstN.toNat) ++
      beBytes 1 s.ec.transparentWrites ++ banks ++ beBytes 1 s.ce.holdQueue.length ++ beBytes 1 s.up.portState.code ++
      beBytes 1 (s.up.tracker.filter fun e => e.phase = .held).length ++
      beBytes 1 (s.up.tracker.filter fun e => e.phase = .issued).length ++
      beBytes 1 (s.up.tracker.filter fun e => e.phase = .answered).length ++
      beBytes 1 (outstandingTags s.dp) ++ beBytes 2 (s.dp.tags.length - outstandingTags s.dp) ++
      beBytes 2 (freeSlots s.rw) ++ beBytes 4 s.wu.memoryLimit ++ beBytes 2 s.dp.responseLimit ++
      beBytes 2 s.ce.holdLimit ++ beBytes 1 s.dp.copyShare →
    ring = beBytes 1 (s.rw.place.isSome.toNat + 2 * s.rw.pendingEnd.isSome.toNat + 4 * s.rw.account.epoch.isSome.toNat +
        8 * s.rw.account.firstData.isSome.toNat + 16 * s.rw.account.endSeq.isSome.toNat + 32 * (inRingWait s).toNat) ++
      beBytes 5 ((s.rw.place.map RingPlace.base).getD 0) ++ beBytes 2 ((s.rw.place.map RingPlace.capacity).getD 0) ++
      beBytes 4 s.rw.reserve.toNat ++ beBytes 4 s.rw.filled.toNat ++ beBytes 4 s.rw.release.toNat ++
      beBytes 2 (freeSlots s.rw) ++ beBytes 2 s.rw.position ++ beBytes 2 s.rw.lowThreshold ++
      beBytes 4 (s.rw.pendingEnd.getD 0) ++ beBytes 4 (s.rw.account.epoch.getD 0) ++
      beBytes 4 (s.rw.account.firstData.getD 0).toNat ++ beBytes 2 s.rw.account.dataSlots ++
      beBytes 4 (s.rw.account.endSeq.getD 0).toNat ++
      beBytes 2 (s.rw.slots.filter fun x => x.progress = .reserved).length ++
      beBytes 2 (s.rw.slots.filter fun x => x.progress = .writing).length ++
      beBytes 2 (s.rw.slots.filter fun x => x.progress = .done).length →
    status.length = 33 ∧ Answers .readStatus .ok status s s ∧ ring.length = 50 ∧ Answers .readRing .ok ring s s

/-- READ_BANK, READ_SPILL and LOOKUP_GRANULE give a page or a search of the banks and change nothing (R45, R46, R47). -/
def Obligations.ReadJournal : Prop :=
  ∀ s : State, s.pins.rstN = true →
    (∀ n i, 1 < n ∨ 4095 < i → Refuses (.readBank n i) .badParam s) ∧
    (∀ n i, 1 < n ∨ 63 < i → Refuses (.readSpill n i) .badParam s) ∧
    (∀ g, 2 ^ 28 ≤ g → Refuses (.lookupGranule g) .badParam s) ∧
    (∀ (name : BankId) (i : Nat) (k : Bank), k = bank s name → i ≤ 4095 →
      Answers (.readBank name.code i) .ok
        (beBytes 1 k.state.code ++ beBytes 4 (k.epoch.getD 0) ++ beBytes 1 (damageCode k.damage) ++
          beBytes 1 (k.power.toNat + 2 * k.portReset.toNat) ++ beBytes 1 k.settle ++ beBytes 2 k.listed ++
          beBytes 2 k.copied ++ beBytes 2 k.skipped ++ beBytes 2 k.urgent ++ beBytes 1 k.spill.length ++
          beBytes 1 (min 16 (k.dirty.length - i)) ++
          ((k.dirty.drop i).take 16).flatMap fun d => beBytes 4 d.granule ++ beBytes 1 d.state.code ++ beBytes 1 d.held)
        s s) ∧
    (∀ (name : BankId) (i : Nat) (k : Bank), k = bank s name → i ≤ 63 →
      Answers (.readSpill name.code i) .ok
        (beBytes 1 k.spill.length ++ beBytes 1 (min 8 (k.spill.length - i)) ++
          ((k.spill.drop i).take 8).flatMap fun e => beBytes 1 e.window ++ beBytes 4 e.low ++ beBytes 4 e.high)
        s s) ∧
    (∀ g, g < 2 ^ 28 →
      ∃ ra rb : List Byte, ra.length = 10 ∧ rb.length = 10 ∧ Answers (.lookupGranule g) .ok (ra ++ rb) s s ∧
        ∀ (name : BankId) (k : Bank) (r : List Byte) (inside : Bool), k = bank s name → r = (if name = .a then ra else rb) →
          (inside = true ↔ ∃ e ∈ k.spill, e.low ≤ g ∧ g ≤ e.high) →
          ((∀ d ∈ k.dirty, d.granule ≠ g) →
            r = beBytes 1 k.state.code ++ beBytes 4 (k.epoch.getD 0) ++ beBytes 1 (2 * inside.toNat) ++ [0#8, 0#8, 0#8, 0#8]) ∧
          (∀ n d, k.dirty[n]? = some d → d.granule = g → (∀ m x, m < n → k.dirty[m]? = some x → x.granule ≠ g) →
            r = beBytes 1 k.state.code ++ beBytes 4 (k.epoch.getD 0) ++ beBytes 1 (1 + 2 * inside.toNat) ++ beBytes 2 n ++
              beBytes 1 d.state.code ++ beBytes 1 d.held))

/-- READ_EPOCH: the record of an age with a page of its spill entries, or EMPTY with the number of records held (R118). -/
def Obligations.ReadEpochRule : Prop :=
  ∀ (s : State) (k i : Nat), s.pins.rstN = true →
    (15 < k ∨ 63 < i → Refuses (.readEpoch k i) .badParam s) ∧
    (k ≤ 15 → i ≤ 63 → s.ec.log.length ≤ k →
      Answers (.readEpoch k i) .empty [BitVec.ofNat 8 s.ec.log.length] s s) ∧
    (∀ r, k ≤ 15 → i ≤ 63 → s.ec.log[k]? = some r →
      Answers (.readEpoch k i) .ok
        (beBytes 1 s.ec.log.length ++ beBytes 4 r.epoch ++ beBytes 1 r.status.code ++ beBytes 1 (damageCode r.damage) ++
          beBytes 1 (r.firstData.isSome.toNat + 2 * r.endSeq.isSome.toNat) ++
          beBytes 1 (r.power.toNat + 2 * r.portReset.toNat) ++ beBytes 2 r.listed ++ beBytes 2 r.copied ++
          beBytes 2 r.skipped ++ beBytes 2 r.urgent ++ beBytes 4 (r.firstData.getD 0).toNat ++
          beBytes 4 (r.endSeq.getD 0).toNat ++ beBytes 1 r.spill.length ++ beBytes 1 (min 8 (r.spill.length - i)) ++
          ((r.spill.drop i).take 8).flatMap fun e => beBytes 1 e.window ++ beBytes 4 e.low ++ beBytes 4 e.high)
        s s)

/-! ## Epochs -/

/-- JOURNAL_START: the seven checks in their order, and the opening of bank A, or of the one FREE bank (R52, R53). -/
def Obligations.JournalStartRule : Prop :=
  ∀ (s : State) (n : Nat) (c : Instr), c = .journalStart n → s.pins.rstN = true →
    (n = 0 → Refuses c .badParam s) ∧
    (1 ≤ n → s.wu.mode = .transparent → Refuses c .wrongMode s) ∧
    (1 ≤ n → s.wu.mode = .guarded → s.rw.place = none → Refuses c .noRing s) ∧
    (1 ≤ n → s.wu.mode = .guarded → s.rw.place ≠ none →
      (s.ju.bankA.state ≠ .free → s.ju.bankB.state ≠ .free → Refuses c .busy s) ∧
      (s.ju.bankA.state = .free ∨ s.ju.bankB.state = .free →
        (s.ec.journal = .recording → Refuses c .notIdle s) ∧
        (s.ec.journal = .off → 0 < s.ec.transparentWrites → Refuses c .notIdle s) ∧
        (s.ec.journal = .off → s.ec.transparentWrites = 0 →
          ((∃ e, (s.ju.bankA.epoch = some e ∨ s.ju.bankB.epoch = some e) ∧ n ≤ e) ∨ (∃ r ∈ s.ec.log, n ≤ r.epoch) →
            Refuses c .badEpoch s) ∧
          ((∀ e, s.ju.bankA.epoch = some e ∨ s.ju.bankB.epoch = some e → e < n) → (∀ r ∈ s.ec.log, r.epoch < n) →
            ∀ (i : BankId) (opened : Bank), i = (if s.ju.bankA.state = .free then .a else .b) →
              opened = { state := .opened, epoch := some n, dirty := [], spill := [], settle := 0, listed := 0, copied := 0,
                         skipped := 0, urgent := 0, power := false, portReset := false, damage := none } →
              Answers c .ok (beBytes 1 i.code ++ beBytes 4 n) s
                (setBank i opened { s with ec := { s.ec with journal := .recording } })))))

/-- CUT and JOURNAL_STOP: their checks in order, their response data, and the accepted cut (R55, R58; the cut itself is
`AcceptedCut`). -/
def Obligations.CutAndStopRule : Prop :=
  ∀ s : State, s.pins.rstN = true →
    (s.ec.journal = .off → Refuses .cut .notRecording s ∧ Refuses .journalStop .notRecording s) ∧
    (∀ (i : BankId) (e : Nat), s.ec.journal = .recording → (bank s i).state = .opened → (bank s i).epoch = some e →
      ((bank s i.other).state ≠ .free → Refuses .cut .busy s ∧ Refuses .journalStop .busy s) ∧
      ((bank s i.other).state = .free → e = 4294967295 → Refuses .cut .epochLimit s) ∧
      ((bank s i.other).state = .free → e < 4294967295 →
        Answers .cut .ok (beBytes 1 i.code ++ beBytes 4 e ++ beBytes 1 i.other.code ++ beBytes 4 (e + 1)) s
          (raiseRingLow s (acceptCut i .command s))) ∧
      ((bank s i.other).state = .free →
        Answers .journalStop .ok (beBytes 1 i.code ++ beBytes 4 e) s (raiseRingLow s (acceptCut i .stop s))))

/-- An accepted cut of bank i while writes of its epoch are outstanding: every bank, flag, counter and set after it
(R56, R28, R44, R171); with none outstanding the same state goes on to drain in the same event (R29). -/
def Obligations.AcceptedCut : Prop :=
  ∀ (s : State) (i : BankId) (e : Nat) (src : CutSource) (cutBank opened : Bank) (u : State),
    (bank s i).state = .opened → (bank s i).epoch = some e →
    cutBank = { bank s i with state := .settling, power := if src = .power then true else (bank s i).power } →
    opened = { freeBank with state := .opened, epoch := some (e + 1) } →
    u = { s with
      ju := (setBank i cutBank (if src = .stop then s else setBank i.other opened s)).ju
      ec := { s.ec with
        journal := if src = .stop then .off else s.ec.journal
        powerCutPending := if src = .command then s.ec.powerCutPending else false }
      au := { s.au with pending := if src = .power then s.au.pending ||| 0x80#8 else s.au.pending }
      tm := { counters := s.tm.counters.map fun c =>
        if c.enabled = true ∧ c.scope = .epoch then
          { c with snapValue := c.value, snapWrap := c.wrap, snapEpoch := some e, value := 0, wrap := false }
        else c } } →
    acceptCut i src s = drainIfSettled i u ∧
      (0 < (bank s i).settle → acceptCut i src s = u) ∧
      ((bank s i).settle = 0 → (bank (acceptCut i src s) i).state = .draining ∨ (bank (acceptCut i src s) i).state = .closing)

/-- PWRWARN: each row of Table 3.7.1, and a level that stays or falls without effect (R62). -/
def Obligations.PowerWarning : Prop :=
  ∀ s u : State, s.pins.rstN = true → u = { s with pins := { s.pins with pwrwarn := true } } →
    (s.pins.pwrwarn = true → exec .pwrwarnAssert s = .next s) ∧
    exec .pwrwarnDeassert s = .next { s with pins := { s.pins with pwrwarn := false } } ∧
    (s.pins.pwrwarn = false →
      (s.ec.journal = .off → exec .pwrwarnAssert s = .next u) ∧
      (∀ (i : BankId) (e : Nat), s.ec.journal = .recording → (bank s i).state = .opened → (bank s i).epoch = some e →
        (s.ec.powerCutPending = true → exec .pwrwarnAssert s = .next u) ∧
        (s.ec.powerCutPending = false → (bank s i.other).state = .free → e < 4294967295 →
          exec .pwrwarnAssert s = .next (raiseRingLow s (acceptCut i .power u))) ∧
        (s.ec.powerCutPending = false → (bank s i.other).state = .free → e = 4294967295 →
          exec .pwrwarnAssert s = .next u) ∧
        (s.ec.powerCutPending = false → (bank s i.other).state.isCut = true →
          exec .pwrwarnAssert s = .next { u with ec := { u.ec with powerCutPending := true } })))

/-- ABANDON by bank state: an OPEN epoch is logged and freed at once, a CLOSING one takes the reason if it had none, a
SETTLING or DRAINING one becomes CLOSING with its held writes ISSUED and handed to the arbiter and nothing PENDING, and
EPOCH_DAMAGED is not raised; the journal is OFF afterwards. Then the whole next state: the damage of the cut bank with reason
ABANDON (what it does is `DamageRule`: its copies abandoned, their reads withdrawn, its END record asked for), the OPEN bank
logged and FREE, the journal OFF and Power-Cut Pending clear (R26, R59, R60, R65, R90, R107, R116). -/
def Obligations.AbandonRule : Prop :=
  ∀ s : State, s.pins.rstN = true → JournalInv s →
    (∃ (t : State), Answers .abandon .ok
        (beBytes 1 t.ju.bankA.state.code ++ beBytes 4 (t.ju.bankA.epoch.getD 0) ++ beBytes 1 t.ju.bankB.state.code ++
          beBytes 4 (t.ju.bankB.epoch.getD 0)) s (raiseRingLow s t) ∧
      t.ec.journal = .off ∧ t.ec.powerCutPending = false ∧ t.ec.transparentWrites = s.ec.transparentWrites ∧
      t.wu = s.wu ∧ t.fq = s.fq ∧ t.tm = s.tm ∧ t.rw.place = s.rw.place ∧ t.mp = s.mp ∧ t.out = s.out ∧
      (∀ i, (bank s i).state = .free → bank t i = freeBank) ∧
      (∀ i, (bank s i).state = .opened →
        bank t i = freeBank ∧ t.au.pending.getLsbD 0 = true ∧
          t.ec.log = ({ epoch := (bank s i).epoch.getD 0, status := .abandoned, damage := some .abandon,
                        listed := (bank s i).listed, copied := 0, skipped := 0, urgent := 0, firstData := none,
                        endSeq := none, power := false, portReset := (bank s i).portReset,
                        spill := (bank s i).spill } :: s.ec.log).take 16) ∧
      (∀ i, (bank s i).state = .closing →
        bank t i = { bank s i with damage := (bank s i).damage.or (some .abandon) } ∧ t.ce = s.ce ∧ t.rw = s.rw ∧ t.dp = s.dp) ∧
      (∀ i, (bank s i).state = .settling ∨ (bank s i).state = .draining →
        (bank t i).state = .closing ∧ (bank t i).epoch = (bank s i).epoch ∧
          (bank t i).damage = (bank s i).damage.or (some .abandon) ∧ t.ce.holdQueue = [] ∧
          t.dp.passThrough = s.dp.passThrough ++ s.ce.holdQueue.filterMap (fun h => (findEntry h.entry s).map passRequest) ∧
          t.up = { s.up with tracker := s.up.tracker.map fun e =>
            if e.number ∈ s.ce.holdQueue.map HoldEntry.entry then { e with phase := .issued, held := false } else e } ∧
          (∀ c ∈ t.ce.copies, c.abandoned = true) ∧
          ∀ d ∈ (bank t i).dirty, d.state ≠ .pending) ∧
      ((∀ i, (bank s i).state ≠ .opened) → t.au = s.au) ∧
      (∀ i, (bank s i).state = .opened → t.au = { s.au with pending := s.au.pending ||| 0x01#8 }) ∧
      ∀ x : State,
        ((∀ i, (bank s i).state.isCut = false) → x = s) →
        (∀ i, (bank s i).state.isCut = true → x = damageBank i .abandon s) →
        ((∀ i, (bank s i).state ≠ .opened) →
          t = { x with ec := { s.ec with journal := .off, powerCutPending := false } }) ∧
        (∀ i, (bank s i).state = .opened →
          t = setBank i freeBank { x with
            ec := { s.ec with journal := .off, powerCutPending := false, log := t.ec.log }
            au := { x.au with pending := x.au.pending ||| 0x01#8 } })) ∧
    (s.ec.journal = .off → s.ju.bankA.state = .free → s.ju.bankB.state = .free →
      Answers .abandon .ok (List.replicate 10 0#8) s s)

/-- The close of a cut epoch: its log record, its bank FREE, EPOCH_CLOSED, the account emptied; then a held power cut is
taken, or dropped at the epoch limit (R63, R67, R116, R117). -/
def Obligations.EpochClose : Prop :=
  ∀ (s : State) (i : BankId) (e : Nat) (r : LogRecord) (u : State), JournalInv s →
    (bank s i).state = .closing → (bank s i).epoch = some e →
    r.epoch = e → r.damage = (bank s i).damage → r.listed = (bank s i).listed → r.copied = (bank s i).copied →
    r.skipped = (bank s i).skipped → r.urgent = (bank s i).urgent → r.power = (bank s i).power →
    r.portReset = (bank s i).portReset → r.spill = (bank s i).spill →
    r.firstData = s.rw.account.firstData → r.endSeq = s.rw.account.endSeq →
    ((bank s i).damage = none → (bank s i).spill = [] → r.status = .complete) →
    ((bank s i).damage = none → (bank s i).spill ≠ [] → r.status = .spilled) →
    ((bank s i).damage = some .abandon → r.status = .abandoned) →
    (∀ d, (bank s i).damage = some d → d ≠ .abandon → r.status = .damaged) →
    u = setBank i freeBank { s with
      ec := { s.ec with log := (r :: s.ec.log).take 16 }
      au := { s.au with pending := s.au.pending ||| 0x01#8 }
      rw := { s.rw with account := { epoch := none, firstData := none, dataSlots := 0, endSeq := none } } } →
    (s.ec.powerCutPending = false → closeEpoch s = u) ∧
    (∀ n, s.ec.powerCutPending = true → (bank s i.other).epoch = some n → n < 4294967295 →
      closeEpoch s = acceptCut i.other .power u) ∧
    (s.ec.powerCutPending = true → (bank s i.other).epoch = some 4294967295 →
      closeEpoch s = { u with ec := { u.ec with powerCutPending := false } })

/-! ## The upstream port -/

/-- What the upstream port takes and what it leaves waiting: a write into the empty staging buffer; nothing into a port that
does not accept, a full tracker or, for a write, a full Hold Queue (R129, R130; that what is not taken leaves the state unchanged
and is presented again is notes/assumptions/4.md, that the staged write carries all of its beats is notes/assumptions/9.md). -/
def Obligations.TakenOrLeftWaiting : Prop :=
  ∀ (s : State) (w : WriteTxn) (t : Txn), s.pins.rstN = true →
    (s.up.portState = .accepting → s.up.staging = none →
      exec (.writeStaging w) s = .next { s with up := { s.up with staging := some w } }) ∧
    (s.up.portState ≠ .accepting ∨ s.up.staging ≠ none → exec (.writeStaging w) s = .next s) ∧
    (CapacityInv s → ((∃ n, freeEntry s = some n) ↔ s.up.tracker.length < 48)) ∧
    (∀ n, freeEntry s = some n → n < 48 ∧ ∀ e ∈ s.up.tracker, e.number ≠ n) ∧
    (s.up.portState ≠ .accepting ∨ (CapacityInv s ∧ s.up.tracker.length = 48) →
      exec (.acceptance (.read t)) s = .next s ∧ exec (.acceptance .lastBeat) s = .next s) ∧
    (s.up.staging = none ∨ 8 ≤ s.ce.holdQueue.length → exec (.acceptance .lastBeat) s = .next s)

/-- A read that passes lookup: one event makes its tracker entry, hands its request to the arbiter and reports it ACCEPTED; it
is neither tagged, marked nor held (R75, R76, R131, R144). -/
def Obligations.ReadAccepted : Prop :=
  ∀ (s : State) (t : Txn) (n m : Nat) (r : LookupResult) (e : TrackerEntry) (q : Request),
    Accepts (.read t) .read t [] [] n s s → r = lookup s.wu .read t → r.refusal = none → r.memory = some m →
    e = { number := n, phase := .issued, stream := { initiator := t.initiator, otag := t.otag, direction := .read },
          host := t.host, length := t.length, mode := s.wu.mode, domain := r.domain, window := r.window, memory := some m,
          epochTag := none, held := false, outcome := none, readData := [], exclusiveResult := none, delivery := .deliver,
          data := [], strobes := [], exclusive := t.exclusive } →
    q = { source := .passRead n, address := m, size := t.length, data := [], strobes := [], exclusive := t.exclusive,
          initiator := some t.initiator, domain := r.domain, window := r.window } →
    exec (.acceptance (.read t)) s =
      .next (report (acceptedReport .read r) 1
        { s with
          up := { s.up with tracker := s.up.tracker ++ [e] }
          dp := { s.dp with passThrough := s.dp.passThrough ++ [q] } })

/-- A write that passes lookup: in TRANSPARENT mode it is counted and issued; in GUARDED mode it is tagged, marked and
hold-checked in this order, in the one event (R50, R72, R131; the three parts are `TagAndMark` and `HoldCheckRule`). -/
def Obligations.WriteAccepted : Prop :=
  ∀ (s s0 : State) (t : Txn) (data : List Byte) (strobes : List Bool) (n m : Nat) (r : LookupResult) (e : TrackerEntry)
    (q : Request),
    Accepts .lastBeat .write t data strobes n s s0 → r = lookup s.wu .write t → r.refusal = none → r.memory = some m →
    e = { number := n, phase := .lookupDone, stream := { initiator := t.initiator, otag := t.otag, direction := .write },
          host := t.host, length := t.length, mode := s.wu.mode, domain := r.domain, window := r.window, memory := some m,
          epochTag := none, held := false, outcome := none, readData := [], exclusiveResult := none, delivery := .deliver,
          data := data, strobes := strobes, exclusive := t.exclusive } →
    q = { source := .passWrite n, address := m, size := t.length, data := data, strobes := strobes, exclusive := t.exclusive,
          initiator := some t.initiator, domain := r.domain, window := r.window } →
    (s.wu.mode = .transparent →
      exec (.acceptance .lastBeat) s =
        .next (report (acceptedReport .write r) 1
          { s0 with
            up := { s0.up with tracker := s0.up.tracker ++ [{ e with phase := .issued }] }
            dp := { s0.dp with passThrough := s0.dp.passThrough ++ [q] }
            ec := { s0.ec with transparentWrites := s0.ec.transparentWrites + 1 } })) ∧
    (s.wu.mode = .guarded →
      exec (.acceptance .lastBeat) s =
        .next (holdCheck n (m / 4096) { initiator := t.initiator, otag := t.otag } r
          (markWrite r (m / 4096)
            (tagWrite n (report (acceptedReport .write r) 1
              { s0 with up := { s0.up with tracker := s0.up.tracker ++ [e] } })))))

/-- A transaction that lookup refuses: its fault record in the event of its acceptance, its REFUSED outcome with zero bytes for a
read, and its response at once when its stream is empty, or an ANSWERED entry that waits for an earlier one; it is handed to
no other block (R12, R131, R135, R138, R158, R159). -/
def Obligations.TransactionRefused : Prop :=
  ∀ (p : Presented) (dir : Direction) (t : Txn) (data : List Byte) (strobes : List Bool) (n : Nat) (s s0 u : State)
    (r : LookupResult) (k : FaultKind) (zeros : Nat) (str : Stream) (e : TrackerEntry) (fields : FaultFields),
    Accepts p dir t data strobes n s s0 → r = lookup s.wu dir t → r.refusal = some k →
    (dir = .write → zeros = 0) → (dir = .read → 1 ≤ t.length → t.length ≤ 256 → zeros = t.length) →
    (dir = .read → t.length = 0 ∨ 256 < t.length → zeros = t.beats) →
    str = { initiator := t.initiator, otag := t.otag, direction := dir } →
    e = { number := n, phase := .answered, stream := str, host := t.host, length := t.length, mode := s.wu.mode,
          domain := r.domain, window := r.window, memory := r.memory, epochTag := none, held := false,
          outcome := some .refused, readData := List.replicate zeros 0#8, exclusiveResult := none, delivery := .deliver,
          data := data, strobes := strobes, exclusive := t.exclusive } →
    fields = { initiator := some t.initiator, direction := some dir, host := some t.host, domain := r.domain,
               window := r.window, memory := r.memory } →
    u = reportFault k fields (report (acceptedReport dir r) 1 s0) →
    (∀ x xs, (s.up.tracker.filter fun x => x.stream = str) = x :: xs → x.phase ≠ .answered →
      exec (.acceptance p) s = .next { u with up := { u.up with tracker := s.up.tracker ++ [e] } }) ∧
    ((∀ x ∈ s.up.tracker, x.stream ≠ str) →
      exec (.acceptance p) s =
        .next (report { event := .refused, domain := r.domain, window := r.window, direction := some dir } 1
          { u with out := { u.out with
            returned := u.out.returned ++
              [{ stream := str, outcome := .refused, data := List.replicate zeros 0#8, exclusiveResult := none }] } }))

/-- The responses of a stream that leave in one event: the ANSWERED entries from the oldest of the stream up to the first that
is not ANSWERED, in acceptance order, each reported; no other stream is touched, and an emptied RESET_DRAIN port accepts again
(R128, R136, R138). -/
def Obligations.ReturnInStreamOrder : Prop :=
  ∀ (s t : State) (str : Stream) (leaving rest : List TrackerEntry),
    (s.up.tracker.map TrackerEntry.number).Nodup → t = returnStream str s →
    (s.up.tracker.filter fun e => e.stream = str) = leaving ++ rest →
    (∀ e ∈ leaving, e.phase = .answered) → (∀ e es, rest = e :: es → e.phase ≠ .answered) →
    t.up.tracker = (s.up.tracker.filter fun e => e ∉ leaving) ∧
    t.out.presented = s.out.presented ∧
    t.out.returned = s.out.returned ++ leaving.map (fun e =>
      { stream := e.stream, outcome := e.outcome.getD .refused, data := e.readData, exclusiveResult := e.exclusiveResult }) ∧
    t.up.staging = s.up.staging ∧
    t.up.portState = (if s.up.portState = .resetDrain ∧ t.up.tracker = [] then .accepting else s.up.portState) ∧
    { t with up := s.up, out := s.out } =
      leaving.foldl (fun u e =>
        report { event := if e.outcome = some .okay then .bytes else .refused, domain := e.domain, window := e.window,
                 direction := some e.stream.direction }
          (if e.outcome = some .okay then e.length else 1) u) s

/-! ## Tag, mark and hold -/

/-- The tag and the mark of a guarded write: the OPEN bank's epoch and settle count; nothing for a listed granule, an entry at the
end of the list, or a spill that makes or widens the window's range and raises SPILL at the first (R34, R37, R39). -/
def Obligations.TagAndMark : Prop :=
  ∀ (s : State) (n g w : Nat) (r : LookupResult), JournalInv s →
    (s.ec.journal = .off → tagWrite n s = s ∧ markWrite r g s = s) ∧
    (r.journaled = false → markWrite r g s = s) ∧
    (∀ (i : BankId) (k : Bank), s.ec.journal = .recording → k = bank s i → k.state = .opened →
      tagWrite n s = changeEntry n (fun e => { e with epochTag := k.epoch }) (setBank i { k with settle := k.settle + 1 } s) ∧
      (r.journaled = true → r.window = some w →
        ((∃ d ∈ k.dirty, d.granule = g) → markWrite r g s = s) ∧
        ((∀ d ∈ k.dirty, d.granule ≠ g) → k.dirty.length < 4096 →
          markWrite r g s = report { event := .marked, domain := r.domain, window := some w } 1
            (setBank i { k with
              dirty := k.dirty ++ [{ granule := g, state := .pending, held := 0 }], listed := k.listed + 1 } s)) ∧
        ((∀ d ∈ k.dirty, d.granule ≠ g) → 4096 ≤ k.dirty.length →
          ∀ (spill : List SpillEntry) (u : State),
            ((∀ x ∈ k.spill, x.window ≠ w) → spill = k.spill ++ [{ window := w, low := g, high := g }]) →
            (∀ xs x ys, k.spill = xs ++ x :: ys → x.window = w → (∀ y ∈ xs ++ ys, y.window ≠ w) →
              spill = xs ++ { window := w, low := min x.low g, high := max x.high g } :: ys) →
            (k.spill.map SpillEntry.window).Nodup →
            u = report { event := .spilled } 1 (setBank i { k with spill := spill } s) →
            (k.spill = [] → markWrite r g s = { u with au := { u.au with pending := u.au.pending ||| 0x04#8 } }) ∧
            (k.spill ≠ [] → markWrite r g s = u))))

/-- The hold check (Table 4.2.1): OWN on an entry PENDING or COPYING of the SETTLING or DRAINING bank, with its timer, its held
count and the promotion of a background copy with a read that waits, a copy with none not being changed; BEHIND an entry of its
stream; issued otherwise (R72 to R75, R84). -/
def Obligations.HoldCheckRule : Prop :=
  ∀ (s : State) (n g : Nat) (str : WriteStream) (r : LookupResult), JournalInv s → DirtyInv s →
    (∀ (i : BankId) (e : Nat) (k : Bank) (d : DirtyEntry) (h : HoldEntry) (u : State),
      k = bank s i → k.state = .settling ∨ k.state = .draining → k.epoch = some e → d ∈ k.dirty → d.granule = g →
      h = { entry := n, stream := str, reason := .own g e (.running s.ce.holdLimit 0) } →
      u = setBank i { k with dirty := k.dirty.map fun x => if x.granule = g then { x with held := x.held + 1 } else x }
        (report { event := .held, domain := r.domain, window := r.window } 1
          { s with
            ce := { s.ce with holdQueue := s.ce.holdQueue ++ [h] }
            up := { s.up with tracker := s.up.tracker.map fun x =>
              if x.number = n then { x with phase := .held, held := true } else x } }) →
      (d.state = .pending → holdCheck n g str r s = u) ∧
      (∀ c ∈ s.ce.copies, d.state = .copying → c.granule = g → c.epoch = e →
        (∀ x ∈ s.ce.copies, x.granule = g → x.epoch = e → x = c) →
        (c.cls = .urgent → holdCheck n g str r s = u) ∧
        (∀ moved stay : List Request, c.cls = .background →
          moved = s.dp.background.filter (Request.isReadOf c.seq) →
          stay = (s.dp.background.filter fun x => !x.isReadOf c.seq) →
          (moved = [] → holdCheck n g str r s = u) ∧
          (moved ≠ [] → holdCheck n g str r s =
            { u with
              ce := { u.ce with copies := u.ce.copies.map fun x => if x.seq = c.seq then { x with cls := .urgent } else x }
              dp := { u.dp with
                urgent := u.dp.urgent ++ moved, background := stay,
                shareCounter := if stay = [] then 0 else u.dp.shareCounter } })))) ∧
    ((∀ i, (bank s i).state = .settling ∨ (bank s i).state = .draining →
        ∀ d ∈ (bank s i).dirty, d.granule = g → d.state = .copied ∨ d.state = .skipped) →
      ((∃ h ∈ s.ce.holdQueue, h.stream = str) →
        holdCheck n g str r s =
          report { event := .held, domain := r.domain, window := r.window } 1
            { s with
              ce := { s.ce with holdQueue := s.ce.holdQueue ++ [{ entry := n, stream := str, reason := .behind }] }
              up := { s.up with tracker := s.up.tracker.map fun x =>
                if x.number = n then { x with phase := .held, held := true } else x } }) ∧
      ((∀ h ∈ s.ce.holdQueue, h.stream ≠ str) → ∀ e, findEntry n s = some e →
        holdCheck n g str r s =
          { s with
            up := { s.up with tracker := s.up.tracker.map fun x =>
              if x.number = n then { x with phase := .issued, held := false } else x }
            dp := { s.dp with passThrough := s.dp.passThrough ++ [passRequest e] } }))

/-- The release scan walks the queue from oldest to newest, and a released entry no longer stands earlier; a scan, and the release
of the whole queue at a damage, hand the writes to the arbiter in order, set them ISSUED and lower the held counts
(R43, R78, R90). -/
def Obligations.ReleaseScanRule : Prop :=
  (∀ ready, scanHolds ready [] [] = ([], [])) ∧
  (∀ ready (hs : List HoldEntry) (h : HoldEntry) (kept released : List HoldEntry),
    scanHolds ready [] hs = (kept, released) →
    (ready h = true → (∀ x ∈ kept, x.stream ≠ h.stream) → scanHolds ready [] (hs ++ [h]) = (kept, released ++ [h])) ∧
    (ready h = false ∨ (∃ x ∈ kept, x.stream = h.stream) → scanHolds ready [] (hs ++ [h]) = (kept ++ [h], released))) ∧
  (∀ (s : State) (after : List HoldEntry → List HoldEntry → State),
    (∀ h, granuleResolved s h = true ↔
      h.waitsOn = none ∨ ∃ g e i d, h.waitsOn = some (g, e) ∧ bankOfEpoch e s = some i ∧ (bank s i).entryOf g = some d ∧
        (d.state = .copied ∨ d.state = .skipped)) ∧
    ((∀ kept released, after kept released =
        { s with
          ce := { s.ce with holdQueue := kept }
          up := { s.up with tracker := s.up.tracker.map fun e =>
            if e.number ∈ released.map HoldEntry.entry then { e with phase := .issued, held := false } else e }
          dp := { s.dp with passThrough :=
            s.dp.passThrough ++ released.filterMap fun h => (findEntry h.entry s).map passRequest }
          ju := {
            bankA := { s.ju.bankA with dirty := s.ju.bankA.dirty.map fun d => { d with
              held := d.held - (released.filter fun h => h.waitsOn.any fun x => x.1 = d.granule ∧ bankOfEpoch x.2 s = some .a).length } }
            bankB := { s.ju.bankB with dirty := s.ju.bankB.dirty.map fun d => { d with
              held := d.held - (released.filter fun h => h.waitsOn.any fun x => x.1 = d.granule ∧ bankOfEpoch x.2 s = some .b).length } } } }) →
      (∀ kept released, scanHolds (granuleResolved s) [] s.ce.holdQueue = (kept, released) →
        releaseScan s = after kept released) ∧
      releaseAll s = after [] s.ce.holdQueue))

/-! ## Resets -/

/-- PORT_RST_N: what an assertion discards and what it leaves, with the settle and the held-write counts that fall and the state
of each bank, a SETTLING one draining or closing when its count falls to 0; then the whole next state: u, the discards alone,
where no SETTLING bank's count falls to 0, and otherwise u with that bank moved on, copies started or its END record asked for;
a deassertion opens the port, or drains it first (R29, R30, R35, R43, R44, R48, R50, R68, R94, R128, R139, R141, R143, R157). The
first four clauses are the model's choices: a level that stays changes nothing (notes/assumptions/4.md), and while RST_N is low the
level alone changes (notes/assumptions/5.md). -/
def Obligations.PortResetRule : Prop :=
  ∀ s t : State,
    (s.pins.portRstN = false → exec .portRstNAssert s = .next s) ∧
    (s.pins.portRstN = true → exec .portRstNDeassert s = .next s) ∧
    (s.pins.rstN = false → s.pins.portRstN = true →
      exec .portRstNAssert s = .next { s with pins := { s.pins with portRstN := false } }) ∧
    (s.pins.rstN = false → s.pins.portRstN = false →
      exec .portRstNDeassert s = .next { s with pins := { s.pins with portRstN := true } }) ∧
    (s.pins.rstN = true → s.pins.portRstN = false →
      exec .portRstNDeassert s = .next { s with
        pins := { s.pins with portRstN := true }
        up := { s.up with portState := if s.up.tracker = [] then .accepting else .resetDrain } }) ∧
    (s.pins.rstN = true → s.pins.portRstN = true → JournalInv s → HoldInv s →
      (∀ flagged : Bank → Bank, s.ce.holdQueue = [] → (∀ e ∈ s.up.tracker, e.phase ≠ .held) →
        (∀ k, flagged k = if k.state = .opened then { k with portReset := true } else k) →
        exec .portRstNAssert s = .next { s with
          pins := { s.pins with portRstN := false }
          ju := { bankA := flagged s.ju.bankA, bankB := flagged s.ju.bankB }
          up := { portState := .inReset, staging := none
                  tracker := (s.up.tracker.filter fun e => e.phase = .issued).map fun e =>
                    { e with delivery := .discard } } }) ∧
      (exec .portRstNAssert s = .next t →
        t.pins = { s.pins with portRstN := false } ∧ t.ce.holdQueue = [] ∧ t.ce.holdLimit = s.ce.holdLimit ∧
        t.up.portState = .inReset ∧ t.up.staging = none ∧
        t.up.tracker = ((s.up.tracker.filter fun e => e.phase = .issued).map fun e => { e with delivery := .discard }) ∧
        t.dp.passThrough = s.dp.passThrough ∧ t.dp.tags = s.dp.tags ∧ t.out = s.out ∧ t.fq = s.fq ∧ t.wu = s.wu ∧
        t.mp = s.mp ∧ t.ec.log = s.ec.log ∧ t.ec.journal = s.ec.journal ∧
        ∀ i, (bank t i).epoch = (bank s i).epoch ∧ (bank t i).damage = (bank s i).damage ∧
          (bank t i).dirty.map DirtyEntry.granule = (bank s i).dirty.map DirtyEntry.granule ∧
          ((bank t i).portReset = true ↔ (bank s i).portReset = true ∨ (bank s i).state = .opened) ∧
          (bank t i).dirty.map DirtyEntry.held = (bank s i).dirty.map (fun d => d.held -
            (s.ce.holdQueue.filter fun h => h.waitsOn.any fun w => w.1 = d.granule ∧ (bank s i).epoch = some w.2).length) ∧
          ((bank s i).state ≠ .settling → (bank t i).state = (bank s i).state) ∧
          (∀ x discarded, (bank s i).epoch = some x →
            discarded = (s.up.tracker.filter fun e =>
              e.phase = .held ∧ e.stream.direction = .write ∧ e.epochTag = some x).length →
            (bank t i).settle = (bank s i).settle - discarded ∧
            ((bank s i).state = .settling →
              (discarded = 0 ∨ discarded < (bank s i).settle → (bank t i).state = .settling) ∧
              (1 ≤ discarded → (bank s i).settle ≤ discarded → (bank s i).dirty = [] → (bank t i).state = .closing) ∧
              (1 ≤ discarded → (bank s i).settle ≤ discarded → (bank s i).dirty ≠ [] →
                (∀ d ∈ (bank s i).dirty, d.state = .pending) → (bank t i).state = .draining)))) ∧
      (∀ (n : BankId → Nat) (counted : Nat) (left : BankId → Bank) (u : State),
        (∀ i, n i = (s.up.tracker.filter fun e =>
          e.phase = .held ∧ e.stream.direction = .write ∧ e.epochTag ≠ none ∧ e.epochTag = (bank s i).epoch).length) →
        counted = (s.up.tracker.filter fun e =>
          e.phase = .held ∧ e.stream.direction = .write ∧ e.epochTag = none ∧ e.mode = .transparent).length →
        (∀ i, left i = { bank s i with
          portReset := (bank s i).portReset || (bank s i).state = .opened
          settle := (bank s i).settle - n i
          dirty := (bank s i).dirty.map fun d => { d with held := d.held -
            (s.ce.holdQueue.filter fun h => h.waitsOn.any fun w => w.1 = d.granule ∧ (bank s i).epoch = some w.2).length } }) →
        u = { s with
          pins := { s.pins with portRstN := false }
          ju := { bankA := left .a, bankB := left .b }
          ec := { s.ec with transparentWrites := s.ec.transparentWrites - counted }
          ce := { s.ce with holdQueue := [] }
          up := { portState := .inReset, staging := none
                  tracker := (s.up.tracker.filter fun e => e.phase = .issued).map fun e =>
                    { e with delivery := .discard } } } →
        ((∀ i, (bank s i).state = .settling → n i = 0 ∨ n i < (bank s i).settle) → exec .portRstNAssert s = .next u) ∧
        (∀ i, (bank s i).state = .settling → 1 ≤ n i → (bank s i).settle ≤ n i →
          exec .portRstNAssert s = .next (raiseRingLow s
            (closeIfResolved i (startCopies (setBank i { left i with state := .draining } u)))) ∧
          ((bank s i).dirty = [] → exec .portRstNAssert s = .next (raiseRingLow s
            (requestEnd (bank s i).epoch (setBank i { left i with state := .closing } u)))) ∧
          ((bank s i).dirty ≠ [] → (∀ d ∈ (bank s i).dirty, d.state = .pending) →
            exec .portRstNAssert s = .next (raiseRingLow s (startCopies (setBank i { left i with state := .draining } u)))))))

/-- RST_N: an assertion returns everything but the pins' levels to its power-on value; while it is low only pin levels change; a
release changes nothing but the pin, with the port state by the level of PORT_RST_N (R24, R48, R69, R96, R114, R125, R143,
R165, R186). The model's own: that an edge to the level the pin has changes nothing (notes/assumptions/4.md), that every row
presented while RST_N is low changes no more than a pin's level (notes/assumptions/5.md; CS_N_RISE, which also writes the port's idle
values, is `ChipSelect`), and what it keeps of its own, the queue (notes/assumptions/21.md). -/
def Obligations.PowerOnResetRule : Prop :=
  ∀ (s : State) (port : PortState) (free : Bank) (counter : Counter),
    port = (if s.pins.portRstN then .accepting else .inReset) →
    free = { state := .free, epoch := none, dirty := [], spill := [], settle := 0, listed := 0, copied := 0, skipped := 0,
             urgent := 0, power := false, portReset := false, damage := none } →
    counter = { event := .accepted, domain := none, window := none, direction := none, scope := .freeRunning,
                enabled := false, value := 0, wrap := false, snapValue := 0, snapWrap := false, snapEpoch := none } →
    (s.pins.rstN = true →
      exec .rstNRelease s = .next s ∧
      exec .rstNAssert s = .next
        { pins := { s.pins with rstN := false }
          timestamp := 0
          wu := { mode := .transparent, domainMap := Vector.replicate 64 none, windows := Vector.replicate 64 none,
                  memoryLimit := 2 ^ 28 }
          ju := { bankA := free, bankB := free }
          ec := { journal := .off, powerCutPending := false, transparentWrites := 0, log := [] }
          ce := { holdQueue := [], holdLimit := 2000, copies := [] }
          rw := { place := none, lowThreshold := 0, reserve := 0, filled := 0, release := 0, position := 0, slots := [],
                  account := { epoch := none, firstData := none, dataSlots := 0, endSeq := none }, pendingEnd := none }
          dp := { urgent := [], passThrough := [], background := [], copyShare := 4, shareCounter := 0, responseLimit := 250,
                  tags := [] }
          fq := { records := [], lost := 0, nextSeq := 0 }
          au := { pending := 0, enable := 0 }
          tm := { counters := Vector.replicate 8 counter }
          up := { portState := port, tracker := [], staging := none }
          mp := { exchange := .idle, received := [], awaiting := none, response := [], sdo := none, answer := none }
          out := { returned := [], presented := [] }
          pending := s.pending }) ∧
    (s.pins.rstN = false →
      exec .rstNAssert s = .next s ∧
      exec .rstNRelease s = .next { s with pins := { s.pins with rstN := true }, up := { s.up with portState := port } } ∧
      ∀ c t, c ≠ .rstNRelease → c ≠ .csNRise → exec c s = .next t →
        t = { s with pins := t.pins } ∧ t.pins.rstN = false ∧ alertDriven t = false)

/-! ## The downstream port -/

/-- A grant: none without a FREE tag, room among the OUTSTANDING tags and a request; the oldest urgent request first, then
pass-through against background by the Copy Share; the lowest FREE tag becomes OUTSTANDING with the limit in force
(R146, R147, R150, R151). -/
def Obligations.GrantRule : Prop :=
  ∀ (s : State) (n : Nat) (granted : DownstreamPort → Request → State), s.pins.rstN = true →
    (∀ dp r, granted dp r =
      { s with
        dp := { dp with tags := s.dp.tags ++
          [{ number := n, state := .outstanding s.dp.responseLimit 0, source := r.source, address := r.address,
             initiator := r.initiator, domain := r.domain, window := r.window }] }
        out := { s.out with presented := s.out.presented ++ [(n, r)] } }) →
    (64 ≤ outstandingTags s.dp → exec .grant s = .next s) ∧
    ((∀ m, m < 256 → ∃ t ∈ s.dp.tags, t.number = m) → exec .grant s = .next s) ∧
    (s.dp.urgent = [] → s.dp.passThrough = [] → s.dp.background = [] → exec .grant s = .next s) ∧
    (outstandingTags s.dp < 64 → n < 256 → (∀ t ∈ s.dp.tags, t.number ≠ n) →
      (∀ m, m < n → ∃ t ∈ s.dp.tags, t.number = m) →
      (∀ r rs, s.dp.urgent = r :: rs → exec .grant s = .next (granted { s.dp with urgent := rs } r)) ∧
      (∀ r rs, s.dp.urgent = [] → s.dp.passThrough = r :: rs → s.dp.background = [] →
        exec .grant s = .next (granted { s.dp with passThrough := rs } r)) ∧
      (∀ r rs, s.dp.urgent = [] → s.dp.passThrough = r :: rs → s.dp.background ≠ [] → s.dp.shareCounter < s.dp.copyShare →
        exec .grant s = .next (granted { s.dp with passThrough := rs, shareCounter := s.dp.shareCounter + 1 } r)) ∧
      (∀ r rs, s.dp.urgent = [] → s.dp.background = r :: rs →
        s.dp.passThrough = [] ∨ s.dp.copyShare ≤ s.dp.shareCounter →
        exec .grant s = .next (granted { s.dp with background := rs, shareCounter := 0 } r)))

/-- The completion of a pass-through request by a response or by the expiry of its timer: the tag, the fault, the report to the
Journal Unit or the Epoch Controller, then the answer in stream order, or the entry FREE without one when it was discarded by a
port reset. An expiry is taken only when the timer has reached its limit (R134, R140, R151 to R154, R158; the last clause is
notes/assumptions/6.md). -/
def Obligations.PassThroughCompletion : Prop :=
  ∀ (s : State) (t : Tag) (e : TrackerEntry) (r : Response) (limit elapsed : Nat) (finish : UpOutcome → State → State)
    (fault : FaultKind → State → State),
    s.pins.rstN = true → findTag r.tag s = some t → t.state = .outstanding limit elapsed →
    (t.source = .passRead e.number ∧ e.stream.direction = .read ∨ t.source = .passWrite e.number ∧ e.stream.direction = .write) →
    findEntry e.number s = some e →
    (∀ kind u, fault kind u = reportFault kind
      { initiator := t.initiator, direction := some e.stream.direction, host := some e.host, domain := t.domain,
        window := t.window, memory := some t.address } u) →
    (e.delivery = .discard → ∀ out u, finish out u = dropEntry e.number (completeWrite e u)) →
    (e.delivery = .deliver →
      (∀ u, finish .okay u = returnStream e.stream (changeEntry e.number (fun x => { x with
        phase := .answered, outcome := some .okay, readData := if e.stream.direction = .read then r.data else []
        exclusiveResult := r.exclusive }) (completeWrite e u))) ∧
      (∀ u, finish .refused u = returnStream e.stream (changeEntry e.number (fun x => { x with
        phase := .answered, outcome := some .refused
        readData := if e.stream.direction = .read then List.replicate e.length 0#8 else []
        exclusiveResult := none }) (completeWrite e u)))) →
    ∀ u : State, u = { s with dp := { s.dp with tags := s.dp.tags.filter fun x => x.number ≠ r.tag } } →
    exec (.responseOkay r) s = .next (raiseRingLow s (finish .okay u)) ∧
    exec (.responseError r) s = .next (raiseRingLow s (finish .refused (fault .downstreamError u))) ∧
    (elapsed < limit → exec (.responseTimerExpiry r.tag) s = .next s) ∧
    (limit ≤ elapsed →
      exec (.responseTimerExpiry r.tag) s = .next (raiseRingLow s (finish .refused (fault .downstreamTimeout
        (report { event := .dsTimeouts, domain := t.domain, window := t.window, direction := some e.stream.direction } 1
          { s with dp := { s.dp with tags := s.dp.tags.map fun x =>
            if x.number = r.tag then { x with state := .expired } else x } })))))

/-- A response that bears no OUTSTANDING tag is late, whichever row of the table presents it: on an EXPIRED tag it frees the tag
and the fault carries what the tag keeps, on a FREE tag the fault has the direction alone; on an OUTSTANDING tag LATE_RESPONSE is
no late response (R155, R159; that the tag's state decides and not the row is notes/assumptions/7.md). -/
def Obligations.LateResponse : Prop :=
  ∀ (s : State) (r : Response) (result : DsResult), s.pins.rstN = true →
    ((∀ t ∈ s.dp.tags, t.number ≠ r.tag) →
      ∀ c, c = .lateResponse result r ∨ c = .responseOkay r ∨ c = .responseError r →
        exec c s = .next (reportFault .lateResponse { direction := some r.direction } s)) ∧
    (∀ t, findTag r.tag s = some t → t.state = .expired →
      ∀ c, c = .lateResponse result r ∨ c = .responseOkay r ∨ c = .responseError r →
        exec c s = .next (reportFault .lateResponse
          { initiator := t.initiator, direction := some t.source.direction, domain := t.domain, window := t.window,
            memory := some t.address }
          { s with dp := { s.dp with tags := s.dp.tags.filter fun x => x.number ≠ r.tag } })) ∧
    (∀ t, OutstandingTag r.tag t s →
      exec (.lateResponse .okay r) s = exec (.responseOkay r) s ∧
      exec (.lateResponse .error r) s = exec (.responseError r) s) ∧
    (∀ t, findTag r.tag s = some t → t.state = .expired → exec (.responseTimerExpiry r.tag) s = .next s)

/-- A completion of a write reported to the journal: the settle count of the bank that holds its epoch falls, and a SETTLING bank
at 0 drains and copies, or closes at once when it lists nothing; a transparent write leaves its count; anything else changes
nothing (R29, R30, R35, R50). -/
def Obligations.SettleAndDrain : Prop :=
  ∀ (s : State) (e : TrackerEntry), JournalInv s →
    (e.stream.direction = .read → completeWrite e s = s) ∧
    (e.stream.direction = .write → e.epochTag = none → e.mode = .guarded → completeWrite e s = s) ∧
    (e.stream.direction = .write → e.epochTag = none → e.mode = .transparent →
      completeWrite e s = { s with ec := { s.ec with transparentWrites := s.ec.transparentWrites - 1 } }) ∧
    (∀ x, e.stream.direction = .write → e.epochTag = some x →
      ((∀ i, (bank s i).epoch ≠ some x) → completeWrite e s = s) ∧
      (∀ (i : BankId) (k : Bank), k = bank s i → k.epoch = some x →
        (k.state ≠ .settling ∨ 2 ≤ k.settle → completeWrite e s = setBank i { k with settle := k.settle - 1 } s) ∧
        (k.state = .settling → k.settle ≤ 1 → k.dirty = [] →
          completeWrite e s = requestEnd (some x) (setBank i { k with settle := 0, state := .closing } s)) ∧
        (k.state = .settling → k.settle ≤ 1 → k.dirty ≠ [] → (∀ d ∈ k.dirty, d.state = .pending) →
          completeWrite e s = startCopies (setBank i { k with settle := 0, state := .draining } s))))

/-! ## Copies, records and damage -/

/-- The starts of copies: they go on until a condition fails; each takes the granule of the oldest held write whose entry is
PENDING, or the first PENDING entry; what a start does to the slot table, the account, the entry, the copies and the queues
(R83, R86, R100, R101, R103). -/
def Obligations.CopiesStart : Prop :=
  ∀ (s : State) (i : BankId) (k : Bank), JournalInv s → DirtyInv s → k = bank s i →
    (∀ t, t = startCopies s →
      4 ≤ t.ce.copies.length ∨ freeSlots t.rw = 0 ∨
        ∀ j, (bank t j).state = .draining → ∀ d ∈ (bank t j).dirty, d.state ≠ .pending) ∧
    (4 ≤ s.ce.copies.length ∨ freeSlots s.rw = 0 ∨
        (∀ j, (bank s j).state = .draining → ∀ d ∈ (bank s j).dirty, d.state ≠ .pending) → startCopies s = s) ∧
    (∀ (index : Nat) (d : DirtyEntry), k.state = .draining → s.ce.copies.length < 4 → 1 ≤ freeSlots s.rw →
      k.dirty[index]? = some d → d.state = .pending →
      (∀ (xs ys : List HoldEntry) (h : HoldEntry) (e : Nat), s.ce.holdQueue = xs ++ h :: ys → k.epoch = some e →
        h.waitsOn = some (d.granule, e) →
        (∀ x ∈ xs, ∀ g, x.waitsOn = some (g, e) → ∀ y ∈ k.dirty, y.granule = g → y.state ≠ .pending) →
        startCopies s = startCopies (startCopy i index true s)) ∧
      ((∀ h ∈ s.ce.holdQueue, ∀ g e, h.waitsOn = some (g, e) → k.epoch = some e →
          ∀ y ∈ k.dirty, y.granule = g → y.state ≠ .pending) →
        (∀ m y, m < index → k.dirty[m]? = some y → y.state ≠ .pending) →
        startCopies s = startCopies (startCopy i index false s))) ∧
    (∀ (index : Nat) (byHold urgent : Bool) (d : DirtyEntry) (p : RingPlace) (q : Seq) (reads : List Request) (u : State),
      k.dirty[index]? = some d → s.rw.place = some p → q = s.rw.reserve → (urgent = true ↔ byHold = true ∨ 0 < d.held) →
      reads = (List.range 16).map (fun j =>
        { source := .copyRead q j, address := d.granule * 4096 + j * 256, size := 256, data := [],
          strobes := List.replicate 256 true, exclusive := false, initiator := none, domain := none, window := none }) →
      u = setBank i { k with
          dirty := k.dirty.set index { d with state := .copying }, urgent := k.urgent + (if urgent then 1 else 0) }
        { s with
          rw := { s.rw with
            reserve := q + 1
            position := (s.rw.position + 1) % p.capacity
            slots := s.rw.slots ++
              [{ seq := q, position := s.rw.position, use := .dataSlot, progress := .reserved, record := none }]
            account := { s.rw.account with
              epoch := s.rw.account.epoch.or k.epoch, firstData := s.rw.account.firstData.or (some q)
              dataSlots := s.rw.account.dataSlots + 1 } }
          ce := { s.ce with copies := s.ce.copies ++
            [{ granule := d.granule, epoch := k.epoch.getD 0, index := index, seq := q, urgent := urgent,
               cls := if urgent then .urgent else .background, resolved := 0, failed := 0, abandoned := false,
               data := List.replicate 16 [] }] } } →
      (urgent = true → startCopy i index byHold s =
        report { event := .urgentCopies } 1 { u with dp := { u.dp with urgent := u.dp.urgent ++ reads } }) ∧
      (urgent = false → startCopy i index byHold s =
        { u with dp := { u.dp with background := u.dp.background ++ reads } }))

/-- A copy read taken: counted with its data at its place, or as failed with the damage and the fault; the sixteenth completes
the copy, COPIED with a DATA record or SKIPPED with a VOID record, with the timers stopped, the release scan, the next starts and
the close of a resolved bank in the same event (R87, R88, R92). Then each part of that event: the timers that stop (R81), the copy
that leaves, the bank that becomes CLOSING and asks for its END record when no entry is PENDING or COPYING (R30, R107), and the
copies with no read left after a damage, which end SKIPPED one after another (R88, R90). The scan, the starts, the records and
the damage are `ReleaseScanRule`, `CopiesStart`, `RecordsHandedOver` and `DamageRule`. No rule gives two orders inside this event,
and the model chooses them (DEDUCED, notes/assumptions/19.md): the DATA or VOID writes of the copy that ends join the background
queue before the reads of the copies that start, and copies that complete together do so in the order of their starts. -/
def Obligations.CopyReadTaken : Prop :=
  ∀ (s : State) (t : Tag) (r : Response) (q : Seq) (k limit elapsed : Nat) (c : CopyOp) (i : BankId) (read failed : CopyOp),
    s.pins.rstN = true → JournalInv s → findTag r.tag s = some t → t.state = .outstanding limit elapsed →
    t.source = .copyRead q k → c ∈ s.ce.copies → c.seq = q → (∀ x ∈ s.ce.copies, x.seq = q → x = c) →
    (bank s i).epoch = some c.epoch → (bank s i).state.isCut = true →
    read = { c with resolved := c.resolved + 1, data := c.data.set k r.data } →
    failed = { c with resolved := c.resolved + 1, failed := c.failed + 1 } →
    (∀ u : State,
      u = { s with
        dp := { s.dp with tags := s.dp.tags.filter fun x => x.number ≠ r.tag }
        ce := { s.ce with copies := s.ce.copies.map fun x => if x.seq = q then read else x } } →
      (c.resolved + 1 < 16 → exec (.responseOkay r) s = .next u) ∧
      (c.resolved + 1 = 16 → c.abandoned = false → c.failed = 0 →
        exec (.responseOkay r) s = .next (raiseRingLow s (closeIfResolved i (startCopies (removeCopy q (handOverData read
          (releaseScan (stopTimers c.granule c.epoch (report { event := .copies } 1
            (setBank i { bank s i with
              dirty := (bank s i).dirty.modify c.index fun d => { d with state := .copied }
              copied := (bank s i).copied + 1 } u)))))))))) ∧
      (c.resolved + 1 = 16 → c.abandoned = true ∨ 0 < c.failed →
        exec (.responseOkay r) s = .next (raiseRingLow s (closeIfResolved i (startCopies (removeCopy q (handOverVoid read
          (releaseScan (stopTimers c.granule c.epoch
            (setBank i { bank s i with
              dirty := (bank s i).dirty.modify c.index fun d => { d with state := .skipped }
              skipped := (bank s i).skipped + 1 } u)))))))))) ∧
    (∀ (counted fault : State → State),
      (∀ u, counted u = { u with ce := { u.ce with copies := u.ce.copies.map fun x => if x.seq = q then failed else x } }) →
      (∀ u, fault u = reportFault .copyFailed { memory := some t.address, granule := some c.granule } u) →
      exec (.responseError r) s = .next (raiseRingLow s (finishCopies (fault (damageBank i .copyError (counted
        { s with dp := { s.dp with tags := s.dp.tags.filter fun x => x.number ≠ r.tag } }))))) ∧
      (limit ≤ elapsed →
        exec (.responseTimerExpiry r.tag) s = .next (raiseRingLow s (finishCopies (fault (damageBank i .copyTimeout (counted
          (report { event := .dsTimeouts, domain := t.domain, window := t.window, direction := some .read } 1
            { s with dp := { s.dp with tags := s.dp.tags.map fun x =>
              if x.number = r.tag then { x with state := .expired } else x } })))))))) ∧
    (∀ (u : State) (g e : Nat) (stop : HoldEntry → HoldEntry),
      (∀ h, h.waitsOn = some (g, e) → stop h = { h with reason := .own g e .stopped }) →
      (∀ h, h.waitsOn ≠ some (g, e) → stop h = h) →
      stopTimers g e u = { u with ce := { u.ce with holdQueue := u.ce.holdQueue.map stop } }) ∧
    (∀ u : State,
      removeCopy q u = { u with ce := { u.ce with copies := u.ce.copies.filter fun x => x.seq ≠ q } }) ∧
    (∀ (u : State) (j : BankId),
      ((bank u j).state = .draining → (∀ d ∈ (bank u j).dirty, d.state = .copied ∨ d.state = .skipped) →
        closeIfResolved j u = requestEnd (bank u j).epoch (setBank j { bank u j with state := .closing } u)) ∧
      ((bank u j).state ≠ .draining ∨ (∃ d ∈ (bank u j).dirty, d.state = .pending ∨ d.state = .copying) →
        closeIfResolved j u = u)) ∧
    (∀ u : State,
      ((∀ x ∈ u.ce.copies, x.resolved < 16) → finishCopies u = u) ∧
      (∀ (j : BankId) (x : CopyOp) (xs ys : List CopyOp), JournalInv u → (∀ i, (bank u i).state ≠ .draining) →
        u.ce.holdQueue = [] → (u.ce.copies.map CopyOp.seq).Nodup → u.ce.copies = xs ++ x :: ys →
        (∀ y ∈ xs, y.resolved < 16) → 16 ≤ x.resolved → (bank u j).epoch = some x.epoch →
        x.abandoned = true ∨ 0 < x.failed →
        finishCopies u = finishCopies (removeCopy x.seq (handOverVoid x (setBank j { bank u j with
          dirty := (bank u j).dirty.modify x.index fun d => { d with state := .skipped }
          skipped := (bank u j).skipped + 1 } u)))))

/-- A damage by the state of the bank it reaches: nothing on FREE or OPEN; the first reason alone on CLOSING; on SETTLING or
DRAINING also the bank CLOSING, every PENDING entry SKIPPED, every COPYING entry as it is until the last read of its copy has
resolved and SKIPPED then, the entries COPIED and SKIPPED as they are, the whole Hold Queue ISSUED and handed to the arbiter, every
copy abandoned with none of its reads waiting, the END record asked for, and the open bank untouched
(R31, R33, R42, R65, R78, R90, R107, R191). The state u is the bridge before the END request and before the copies with no read
left end, which `RecordsHandedOver` and `CopyReadTaken` state; its Copy Share counter is the model's choice,
notes/assumptions/28.md, and so is the order of what follows it, the END request before the ended copies and those in the order
of their starts, notes/assumptions/19.md. -/
def Obligations.DamageRule : Prop :=
  ∀ (s t : State) (i : BankId) (reason : DamageReason), JournalInv s → HoldInv s →
    (∀ c ∈ s.ce.copies, (bank s i).state.isCut = true → (bank s i).epoch = some c.epoch ∧
      ∃ d, (bank s i).dirty[c.index]? = some d ∧ d.state = .copying) →
    (s.ce.copies.map CopyOp.seq).Nodup → (s.ce.copies.map CopyOp.index).Nodup → t = damageBank i reason s →
    ((bank s i).state = .free ∨ (bank s i).state = .opened → t = s) ∧
    ((bank s i).state = .closing →
      ((bank s i).damage ≠ none → t = s) ∧
      ((bank s i).damage = none →
        t = { setBank i { bank s i with damage := some reason } s with
          au := { s.au with pending := if reason = .abandon then s.au.pending else s.au.pending ||| 0x02#8 } })) ∧
    ((bank s i).state = .settling ∨ (bank s i).state = .draining →
      (bank t i).state = .closing ∧ (bank t i).epoch = (bank s i).epoch ∧
      (bank t i).damage = (bank s i).damage.or (some reason) ∧ (bank t i).listed = (bank s i).listed ∧
      (bank t i).copied = (bank s i).copied ∧ (bank t i).settle = (bank s i).settle ∧
      (bank t i).dirty.length = (bank s i).dirty.length ∧
      (∀ (n : Nat) (d : DirtyEntry), (bank s i).dirty[n]? = some d →
        ∃ x : DirtyEntry, (bank t i).dirty[n]? = some x ∧ x.granule = d.granule ∧
          x.held = d.held - (s.ce.holdQueue.filter fun h => h.waitsOn.any fun w => w.1 = d.granule).length ∧
          (d.state = .pending → x.state = .skipped) ∧
          (d.state = .copied ∨ d.state = .skipped → x.state = d.state) ∧
          (d.state = .copying → x.state = .copying ∨ x.state = .skipped) ∧
          (∀ c ∈ s.ce.copies, c.index = n → x.state =
            if c.resolved + ((s.dp.urgent ++ s.dp.background).filter (Request.isReadOf c.seq)).length < 16 then .copying
            else .skipped)) ∧
      bank t i.other = bank s i.other ∧
      t.ce.holdQueue = [] ∧ t.dp.passThrough = s.dp.passThrough ++
        s.ce.holdQueue.filterMap (fun h => (findEntry h.entry s).map passRequest) ∧
      (∀ c ∈ t.ce.copies, c.abandoned = true ∧ c.resolved < 16) ∧
      (∀ c ∈ s.ce.copies, ∀ x ∈ t.dp.urgent ++ t.dp.background, ∀ k, x.source ≠ .copyRead c.seq k) ∧
      t.au.pending = (if (bank s i).damage = none ∧ reason ≠ .abandon then s.au.pending ||| 0x02#8 else s.au.pending) ∧
      t.fq = s.fq ∧ t.tm = s.tm ∧ t.ec = s.ec ∧ t.out = s.out ∧ t.dp.tags = s.dp.tags ∧
      t.up = { s.up with tracker := s.up.tracker.map fun e =>
        if e.number ∈ s.ce.holdQueue.map HoldEntry.entry then { e with phase := .issued, held := false } else e } ∧
      t.rw.account.epoch = s.rw.account.epoch.or (bank s i).epoch ∧
      (freeSlots s.rw = 0 → t.rw.pendingEnd = (bank s i).epoch ∧ t.rw.reserve = s.rw.reserve) ∧
      (1 ≤ freeSlots s.rw → t.rw.pendingEnd = s.rw.pendingEnd ∧ t.rw.reserve = s.rw.reserve + 1 ∧
        t.rw.account.endSeq = some s.rw.reserve) ∧
      (∀ (u : State) (waits : Request → Bool) (skipped : DirtyEntry → DirtyEntry),
        (∀ x, waits x = s.ce.copies.all fun c => !x.isReadOf c.seq) →
        (∀ d, skipped d = { d with
          state := if d.state = .pending then .skipped else d.state
          held := d.held - (s.ce.holdQueue.filter fun h => h.waitsOn.any fun w => w.1 = d.granule).length }) →
        u = setBank i { bank s i with
            state := .closing
            damage := (bank s i).damage.or (some reason)
            dirty := (bank s i).dirty.map skipped
            skipped := (bank s i).skipped + ((bank s i).dirty.filter fun d => d.state = .pending).length }
          { s with
            ce := { s.ce with
              holdQueue := []
              copies := s.ce.copies.map fun c => { c with
                abandoned := true
                resolved := c.resolved +
                  ((s.dp.urgent ++ s.dp.background).filter (Request.isReadOf c.seq)).length } }
            up := t.up
            au := { s.au with pending := t.au.pending }
            dp := { s.dp with
              urgent := s.dp.urgent.filter waits
              passThrough := t.dp.passThrough
              background := s.dp.background.filter waits
              shareCounter := if s.dp.background.filter waits = [] then 0 else s.dp.shareCounter } } →
        t = finishCopies (requestEnd (bank s i).epoch u)))

/-- The records handed to the Ring Writer, with every write at its place in the slot: DATA with 16 data writes, VOID with its
header, END when it has the slot at filled, spill area first; a bank that becomes CLOSING reserves its END slot or leaves the
Pending End Marker (R89, R97, R104, R105, R107, R108, R188). -/
def Obligations.RecordsHandedOver : Prop :=
  ∀ (s : State) (p : RingPlace) (x : Slot) (write : Source → Nat → Nat → List Byte → Request)
    (sealed : List Byte → List Byte) (handed : RecordWrite → List Request → State),
    JournalInv s → s.rw.place = some p → findSlot x.seq s = some x →
    (∀ src offset n data, write src offset n data =
      { source := src, address := p.base + x.position * 4160 + offset, size := n, data := data,
        strobes := List.replicate n true, exclusive := false, initiator := none, domain := none, window := none }) →
    (∀ body, sealed body = body ++ beBytes 4 (crc32 body).toNat) →
    (∀ w rs, handed w rs = { s with
      rw := { s.rw with slots := s.rw.slots.map fun y =>
        if y.seq = x.seq then { y with progress := .writing, record := some w } else y }
      dp := { s.dp with background := s.dp.background ++ rs } }) →
    (∀ (c : CopyOp) (header : List Byte), c.seq = x.seq →
      header = sealed ([0x4B#8, 0x52#8, 1#8, if c.urgent then 1#8 else 0#8] ++ beBytes 4 c.seq.toNat ++ beBytes 4 c.epoch ++
        beBytes 4 c.granule ++ beBytes 4 (crc32 c.data.flatten).toNat ++ List.replicate 40 0#8) →
      header.length = 64 ∧
      handOverData c s = handed
        { kind := .data, granule := some c.granule, header := header, areaWrites := 16, resolved := 0, failed := 0 }
        ((List.range 16).map fun j => write (.dataWrite c.seq j) (64 + j * 256) 256 (c.data.getD j []))) ∧
    (∀ (c : CopyOp) (header : List Byte), c.seq = x.seq →
      header = sealed ([0x4B#8, 0x52#8, 2#8, 0#8] ++ beBytes 4 c.seq.toNat ++ beBytes 4 c.epoch ++ beBytes 4 c.granule ++
        List.replicate 44 0#8) →
      header.length = 64 ∧
      handOverVoid c s = handed
        { kind := .void, granule := some c.granule, header := header, areaWrites := 0, resolved := 0, failed := 0 }
        [write (.voidHeader c.seq) 0 64 header]) ∧
    (∀ (i : BankId) (k : Bank) (e : Nat) (header area : List Byte), k = bank s i → k.state.isCut = true → k.epoch = some e →
      s.rw.account.endSeq = some x.seq → x.use = .endSlot → x.progress = .reserved →
      header = sealed ([0x4B#8, 0x52#8, 3#8,
          BitVec.ofNat 8 (k.power.toNat + 2 * k.portReset.toNat + 4 * s.rw.account.firstData.isSome.toNat)] ++
        beBytes 4 x.seq.toNat ++ beBytes 4 e ++
        [BitVec.ofNat 8 (epochStatus k.damage k.spill).code, BitVec.ofNat 8 (damageCode k.damage),
          BitVec.ofNat 8 k.spill.length, 0#8] ++
        beBytes 2 k.listed ++ beBytes 2 k.copied ++ beBytes 2 k.skipped ++ beBytes 2 k.urgent ++
        beBytes 4 (s.rw.account.firstData.getD 0).toNat ++ beBytes 2 s.rw.account.dataSlots ++ List.replicate 30 0#8) →
      area = (k.spill.flatMap fun y => BitVec.ofNat 8 y.window :: 0#8 :: 0#8 :: 0#8 ::
        (beBytes 4 y.low ++ beBytes 4 y.high ++ [0#8, 0#8, 0#8, 0#8])) ++ List.replicate 256 0#8 →
      header.length = 64 ∧
      (s.rw.filled ≠ x.seq → writeEndIfReady s = s) ∧
      (s.rw.filled = x.seq → k.spill = [] →
        writeEndIfReady s = handed
          { kind := .ending, granule := none, header := header, areaWrites := 0, resolved := 0, failed := 0 }
          [write (.endHeader x.seq) 0 64 header]) ∧
      (s.rw.filled = x.seq → k.spill ≠ [] →
        writeEndIfReady s = handed
          { kind := .ending, granule := none, header := header, areaWrites := (k.spill.length + 15) / 16, resolved := 0,
            failed := 0 }
          ((List.range ((k.spill.length + 15) / 16)).map fun j =>
            write (.endSpill x.seq j) (64 + j * 256) 256 ((area.drop (j * 256)).take 256)))) ∧
    (∀ (e : Nat) (account : EpochAccount), account = { s.rw.account with epoch := s.rw.account.epoch.or (some e) } →
      (freeSlots s.rw = 0 →
        requestEnd (some e) s = { s with rw := { s.rw with account := account, pendingEnd := some e } }) ∧
      (1 ≤ freeSlots s.rw →
        requestEnd (some e) s = writeEndIfReady { s with rw := { s.rw with
          reserve := s.rw.reserve + 1
          position := (s.rw.position + 1) % p.capacity
          slots := s.rw.slots ++
            [{ seq := s.rw.reserve, position := s.rw.position, use := .endSlot, progress := .reserved, record := none }]
          account := { account with endSeq := some s.rw.reserve } } }))

/-- A record write taken: the header follows the last area write when none failed, otherwise the slot is DONE; a failure damages the
epoch and reports COPY_FAILED; a DONE slot moves filled over the contiguous run of DONE slots, and passing the END slot closes
the epoch (R89, R92, R104, R106, R108, R109, R152, R153, R154). -/
def Obligations.RecordWriteTaken : Prop :=
  ∀ (s : State) (t : Tag) (r : Response) (q : Seq) (limit elapsed : Nat) (x : Slot) (w : RecordWrite) (i : BankId)
    (p : RingPlace) (u v : State) (fault : State → State),
    s.pins.rstN = true → JournalInv s → RingInv s → s.rw.place = some p → findTag r.tag s = some t →
    t.state = .outstanding limit elapsed → findSlot q s = some x → x.record = some w → (bank s i).state.isCut = true →
    u = { s with dp := { s.dp with tags := s.dp.tags.filter fun y => y.number ≠ r.tag } } →
    v = report { event := .dsTimeouts, domain := t.domain, window := t.window, direction := some .write } 1
      { s with dp := { s.dp with tags := s.dp.tags.map fun y => if y.number = r.tag then { y with state := .expired } else y } } →
    (∀ y, fault y = reportFault .copyFailed { memory := some t.address, granule := w.granule } (damageBank i .recordWrite y)) →
    ((∃ k, t.source = .dataWrite q k ∨ t.source = .endSpill q k) →
      exec (.responseError r) s = .next (raiseRingLow s (resolveArea q true (fault u))) ∧
      (limit ≤ elapsed → exec (.responseTimerExpiry r.tag) s = .next (raiseRingLow s (resolveArea q true (fault v)))) ∧
      exec (.responseOkay r) s = .next (raiseRingLow s (resolveArea q false u))) ∧
    (t.source = .dataHeader q ∨ t.source = .voidHeader q ∨ t.source = .endHeader q →
      exec (.responseError r) s = .next (raiseRingLow s (finishSlot q (fault u))) ∧
      (limit ≤ elapsed → exec (.responseTimerExpiry r.tag) s = .next (raiseRingLow s (finishSlot q (fault v)))) ∧
      exec (.responseOkay r) s = .next (raiseRingLow s (finishSlot q u))) ∧
    (∀ (failed : Bool) (w' : RecordWrite) (counted : State),
      w' = { w with resolved := w.resolved + 1, failed := w.failed + (if failed then 1 else 0) } →
      counted = { s with rw := { s.rw with slots := s.rw.slots.map fun y =>
        if y.seq = q then { y with record := some w' } else y } } →
      (w.resolved + 1 ≠ w.areaWrites → resolveArea q failed s = counted) ∧
      (w.resolved + 1 = w.areaWrites → 0 < w'.failed → resolveArea q failed s = finishSlot q counted) ∧
      (w.resolved + 1 = w.areaWrites → w'.failed = 0 →
        resolveArea q failed s = { counted with dp := { s.dp with background := s.dp.background ++
          [{ source := match w.kind with
               | .data => .dataHeader q
               | .void => .voidHeader q
               | .ending => .endHeader q
             address := p.base + x.position * 4160, size := 64, data := w.header, strobes := List.replicate 64 true,
             exclusive := false, initiator := none, domain := none, window := none }] } })) ∧
    (∀ (slots passed rest : List Slot) (z : State),
      slots = (s.rw.slots.map fun y => if y.seq = q then { y with progress := .done } else y) → slots = passed ++ rest →
      (∀ y ∈ passed, y.progress = .done) → (∀ y ys, rest = y :: ys → y.progress ≠ .done) →
      z = writeEndIfReady { s with rw := { s.rw with
        filled := s.rw.filled + BitVec.ofNat 32 passed.length, slots := rest } } →
      ((∃ y ∈ passed, y.use = .endSlot) → finishSlot q s = closeEpoch z) ∧
      ((∀ y ∈ passed, y.use ≠ .endSlot) → finishSlot q s = z))

/-- The expiry of a hold timer: taken when a running timer has reached its limit, it damages the epoch of its entry with reason
HOLD_TIMEOUT and reports COPY_FAILED with the granule alone; a stopped timer and a BEHIND entry do not expire (R81, R82, R159;
that an expiry presented too early changes nothing is notes/assumptions/6.md). -/
def Obligations.HoldTimerExpiryRule : Prop :=
  ∀ (s : State) (n : Nat) (h : HoldEntry), s.pins.rstN = true → JournalInv s → HoldInv s →
    (s.ce.holdQueue.map HoldEntry.entry).Nodup → h ∈ s.ce.holdQueue → h.entry = n →
    (h.reason = .behind → exec (.holdTimerExpiry n) s = .next s) ∧
    (∀ g e, h.reason = .own g e .stopped → exec (.holdTimerExpiry n) s = .next s) ∧
    (∀ g e limit elapsed, h.reason = .own g e (.running limit elapsed) →
      (elapsed < limit → exec (.holdTimerExpiry n) s = .next s) ∧
      (limit ≤ elapsed →
        ∃ i, ((bank s i).state = .settling ∨ (bank s i).state = .draining) ∧ (bank s i).epoch = some e ∧
          exec (.holdTimerExpiry n) s =
            .next (raiseRingLow s (reportFault .copyFailed { granule := some g } (damageBank i .holdTimeout s)))))

/-! ## The timebase, the counters, the faults and the alerts -/

/-- A microsecond: the timestamp and the running timers count it, then HOLD_OCCUPANCY, TRACKER_OCCUPANCY and, in ring wait,
RING_WAIT are reported (R85, R151, R160, R169; that this row is the timebase's tick is notes/assumptions/17.md). -/
def Obligations.MicrosecondTick : Prop :=
  ∀ (s u v : State) (tag : Tag → Tag) (hold : HoldEntry → HoldEntry), s.pins.rstN = true → JournalInv s →
    (∀ t, t.state = .expired → tag t = t) →
    (∀ t l n, t.state = .outstanding l n → tag t = { t with state := .outstanding l (n + 1) }) →
    (∀ h g e l n, h.reason = .own g e (.running l n) → hold h = { h with reason := .own g e (.running l (n + 1)) }) →
    (∀ h, h.reason = .behind ∨ (∃ g e, h.reason = .own g e .stopped) → hold h = h) →
    u = { s with timestamp := s.timestamp + 1, dp := { s.dp with tags := s.dp.tags.map tag },
                 ce := { s.ce with holdQueue := s.ce.holdQueue.map hold } } →
    v = reportBy { event := .trackerOccupancy }
      (fun c => (s.up.tracker.filter fun e => c.direction = none ∨ c.direction = some e.stream.direction).length)
      (report { event := .holdOccupancy } s.ce.holdQueue.length u) →
    (s.ce.copies.length < 4 → freeSlots s.rw = 0 →
      (∃ i, (bank s i).state = .draining ∧ ∃ d ∈ (bank s i).dirty, d.state = .pending) →
      exec .usTick s = .next (report { event := .ringWait } 1 v)) ∧
    (4 ≤ s.ce.copies.length ∨ 1 ≤ freeSlots s.rw ∨
        (∀ i, (bank s i).state = .draining → ∀ d ∈ (bank s i).dirty, d.state ≠ .pending) →
      exec .usTick s = .next v)

/-- A report at one counter: what takes it, the sum, the wrap past 2^48 − 1 with its flag and COUNTER_WRAP, and that nothing else
changes (R167, R170). -/
def Obligations.CounterCounts : Prop :=
  ∀ (s t : State) (r : Report) (amount : Counter → Nat), t = reportBy r amount s →
    t = { s with tm := t.tm, au := { s.au with pending := t.au.pending } } ∧
    (∀ (n : Nat) (c : Counter) (takes : Prop), s.tm.counters[n]? = some c →
      (takes ↔ c.enabled = true ∧ c.event = r.event ∧
        (r.event ∈ [.accepted, .refused, .bytes, .held, .marked, .dsTimeouts] →
          (c.domain = none ∨ c.domain = r.domain) ∧ (c.window = none ∨ c.window = r.window)) ∧
        (r.event ∈ [.accepted, .refused, .bytes, .dsTimeouts] → c.direction = none ∨ c.direction = r.direction)) →
      (¬ takes → t.tm.counters[n]? = some c) ∧
      (takes → c.value + amount c < 2 ^ 48 → t.tm.counters[n]? = some { c with value := c.value + amount c }) ∧
      (takes → 2 ^ 48 ≤ c.value + amount c →
        t.tm.counters[n]? = some { c with value := c.value + amount c - 2 ^ 48, wrap := true } ∧
          t.au.pending = s.au.pending ||| 0x40#8)) ∧
    ((∀ (n : Nat) (c : Counter), s.tm.counters[n]? = some c → c.value + amount c < 2 ^ 48) → t.au.pending = s.au.pending)

/-- A fault reported, and READ_FAULT: the sequence every fault takes, the record at the end of the queue or the lost count that
stays at 255, the cause raised; the oldest record read and removed, and the lost count cleared with it (R160, R161, R163). -/
def Obligations.FaultsRule : Prop :=
  ∀ (s : State) (kind : FaultKind) (f : FaultFields),
    (s.fq.records.length < 8 →
      reportFault kind f s = { s with
        fq := { records := s.fq.records ++ [{ seq := s.fq.nextSeq, kind := kind, fields := f, timestamp := s.timestamp }]
                lost := s.fq.lost, nextSeq := s.fq.nextSeq + 1 }
        au := { s.au with pending := s.au.pending ||| 0x08#8 } }) ∧
    (8 ≤ s.fq.records.length → s.fq.lost ≤ 255 →
      reportFault kind f s = { s with
        fq := { s.fq with lost := if s.fq.lost = 255 then 255 else s.fq.lost + 1, nextSeq := s.fq.nextSeq + 1 }
        au := { s.au with pending := s.au.pending ||| 0x10#8 } }) ∧
    (s.pins.rstN = true →
      (s.fq.records = [] → Answers .readFault .empty [BitVec.ofNat 8 s.fq.lost, 0#8] s s) ∧
      (∀ (r : FaultRecord) (rs : List FaultRecord) (g : FaultFields), s.fq.records = r :: rs → g = r.fields →
        Answers .readFault .ok
          ([BitVec.ofNat 8 s.fq.lost, BitVec.ofNat 8 rs.length] ++ beBytes 2 r.seq.toNat ++
            [BitVec.ofNat 8 r.kind.code,
              BitVec.ofNat 8 (g.initiator.isSome.toNat + 2 * g.direction.isSome.toNat + 4 * g.host.isSome.toNat +
                8 * g.domain.isSome.toNat + 16 * g.window.isSome.toNat + 32 * g.memory.isSome.toNat +
                64 * g.granule.isSome.toNat),
              BitVec.ofNat 8 (g.initiator.getD 0), if g.direction = some .write then 1#8 else 0#8] ++
            beBytes 5 (g.host.getD 0) ++ [BitVec.ofNat 8 (g.domain.getD 255), BitVec.ofNat 8 (g.window.getD 255)] ++
            beBytes 5 (g.memory.getD 0) ++ beBytes 4 (g.granule.getD 0) ++ beBytes 4 r.timestamp.toNat)
          s { s with fq := { s.fq with records := rs, lost := 0 } }))

/-- SET_COUNTER, READ_COUNTER and CLEAR_COUNTER: their checks, the fields each changes, and the layout that READ_COUNTER gives
(R173, R174, R175; that the configuration in a response counts the counter number among its fields is notes/assumptions/13.md). -/
def Obligations.CounterCommands : Prop :=
  ∀ (s : State) (code : Option Direction → Nat) (config : Nat → Counter → List Byte), s.pins.rstN = true →
    code (some .read) = 0 → code (some .write) = 1 → code none = 2 →
    (∀ n c, config n c = [BitVec.ofNat 8 n, BitVec.ofNat 8 c.event.code, BitVec.ofNat 8 (c.domain.getD 255),
      BitVec.ofNat 8 (c.window.getD 255), BitVec.ofNat 8 (code c.direction), BitVec.ofNat 8 c.scope.code,
      BitVec.ofNat 8 c.enabled.toNat]) →
    (∀ n e d w r sc en, 7 < n ∨ 11 < e ∨ (15 < d ∧ d ≠ 255) ∨ (63 < w ∧ w ≠ 255) ∨ 2 < r ∨ 1 < sc ∨ 1 < en →
      Refuses (.setCounter n e d w r sc en) .badParam s) ∧
    (∀ n, 7 < n → Refuses (.readCounter n) .badParam s ∧ Refuses (.clearCounter n) .badParam s) ∧
    (∀ (n : Nat) (c : Counter), s.tm.counters[n]? = some c →
      (∀ (e : CounterEvent) (d w : Option Nat) (r : Option Direction) (sc : Scope) (en : Bool) (changed : Counter),
        (∀ x, d = some x → x ≤ 15) → (∀ x, w = some x → x ≤ 63) →
        changed = { c with event := e, domain := d, window := w, direction := r, scope := sc, enabled := en } →
        Answers (.setCounter n e.code (d.getD 255) (w.getD 255) (code r) sc.code en.toNat) .ok (config n changed) s
          { s with tm := { counters := s.tm.counters.setIfInBounds n changed } }) ∧
      Answers (.readCounter n) .ok
        (config n c ++ [BitVec.ofNat 8 (c.wrap.toNat + 2 * c.snapWrap.toNat)] ++ beBytes 6 c.value ++ beBytes 6 c.snapValue ++
          beBytes 4 (c.snapEpoch.getD 0)) s s ∧
      Answers (.clearCounter n) .ok [] s
        { s with tm := { counters := s.tm.counters.setIfInBounds n { c with value := 0, wrap := false } } })

/-- SET_ALERT_ENABLE, READ_ALERTS, ACK_ALERTS, a raise, and ALERT_N, which is driven while a cause is both pending and enabled
(R119, R121, R122, R123, R124). -/
def Obligations.AlertsRule : Prop :=
  ∀ (s : State) (causes : Byte), s.pins.rstN = true →
    Answers (.setAlertEnable causes) .ok [causes] s { s with au := { s.au with enable := causes } } ∧
    Answers .readAlerts .ok [s.au.pending, s.au.enable, if alertDriven s then 1#8 else 0#8] s s ∧
    (∃ left : Byte,
      Answers (.ackAlerts causes) .ok [left] s { s with au := { s.au with pending := left } } ∧
      ∀ n, left.getLsbD n = true ↔ s.au.pending.getLsbD n = true ∧ causes.getLsbD n = false) ∧
    (alertDriven s = true ↔ ∃ n, s.au.pending.getLsbD n = true ∧ s.au.enable.getLsbD n = true) ∧
    (∀ c : Cause, ∃ pending : Byte, raiseCause c s = { s with au := { s.au with pending := pending } } ∧
      ∀ n, pending.getLsbD n = true ↔ s.au.pending.getLsbD n = true ∨ c.bit.getLsbD n = true)

/-! ## The ring commands -/

/-- CONFIGURE_RING: the checks in their order, the ring placed with its indices, slot table and account empty; with a slot count of
0, the ring not configured (R97, R98, R99; the base of the second row and the 19 zero bytes are notes/assumptions/12.md
and 24.md). -/
def Obligations.ConfigureRingRule : Prop :=
  ∀ (s : State) (base n : Nat) (busy : Prop) (placed : Option RingPlace → State), s.pins.rstN = true →
    (busy ↔ s.ec.journal = .recording ∨ s.ju.bankA.state ≠ .free ∨ s.ju.bankB.state ≠ .free ∨ s.rw.pendingEnd ≠ none) →
    (∀ p, placed p = { s with rw :=
      { place := p, lowThreshold := s.rw.lowThreshold, reserve := 0, filled := 0, release := 0, position := 0, slots := [],
        account := { epoch := none, firstData := none, dataSlots := 0, endSeq := none }, pendingEnd := none } }) →
    (busy → Refuses (.configureRing base 0) .notIdle s ∧ Refuses (.unconfigureRing base) .notIdle s) ∧
    (¬ busy → Answers (.configureRing base 0) .ok (List.replicate 19 0#8) s (placed none) ∧
      Answers (.unconfigureRing base) .ok (List.replicate 19 0#8) s (placed none)) ∧
    (1 ≤ n → base % 64 ≠ 0 ∨ 2 ^ 40 ≤ base ∨ n = 1 ∨ 65535 < n → Refuses (.configureRing base n) .badParam s) ∧
    (base % 64 = 0 → base < 2 ^ 40 → 2 ≤ n → n ≤ 65535 →
      (busy → Refuses (.configureRing base n) .notIdle s) ∧
      (¬ busy →
        (s.wu.memoryLimit * 4096 < base + n * 4160 → Refuses (.configureRing base n) .range s) ∧
        (base + n * 4160 ≤ s.wu.memoryLimit * 4096 →
          ((∃ m w, windowAt s.wu m = some w ∧ w.key = .readWrite ∧ Meet w.memLow w.memEnd base (base + n * 4160)) →
            Refuses (.configureRing base n) .ringConflict s) ∧
          ((∀ m w, windowAt s.wu m = some w → w.key = .readWrite → ¬ Meet w.memLow w.memEnd base (base + n * 4160)) →
            Answers (.configureRing base n) .ok (beBytes 5 base ++ beBytes 2 n ++ List.replicate 12 0#8) s
              (raiseRingLow s (placed (some { base := base, capacity := n })))))))

/-- RELEASE_SLOTS: the checks in their order; release advances, a pending END record takes the slot that becomes free, otherwise
waiting copies start. SET_RING_LOW, and RING_LOW, raised when the count goes below the threshold in an event
(R110, R112; that it is judged over the whole event is notes/assumptions/19.md). -/
def Obligations.ReleaseAndRingLow : Prop :=
  ∀ (s : State) (n : Nat), s.pins.rstN = true →
    (65535 < n → Refuses (.releaseSlots n) .badParam s ∧ Refuses (.setRingLow n) .badParam s) ∧
    (n ≤ 65535 → s.rw.place = none → Refuses (.releaseSlots n) .noRing s) ∧
    (n ≤ 65535 → s.rw.place ≠ none → (s.rw.filled - s.rw.release).toNat < n → Refuses (.releaseSlots n) .badCount s) ∧
    (∀ u t : State, n ≤ 65535 → s.rw.place ≠ none → n ≤ (s.rw.filled - s.rw.release).toNat →
      u = { s with rw := { s.rw with release := s.rw.release + BitVec.ofNat 32 n } } →
      (∀ e, s.rw.pendingEnd = some e → 1 ≤ freeSlots u.rw →
        t = reserveEnd { u with rw := { u.rw with pendingEnd := none } }) →
      (∀ e, s.rw.pendingEnd = some e → freeSlots u.rw = 0 → t = u) →
      (s.rw.pendingEnd = none → t = startCopies u) →
      (s.rw.pendingEnd ≠ none → ∀ i, (bank s i).state ≠ .draining) →
      Answers (.releaseSlots n) .ok
        (beBytes 4 t.rw.reserve.toNat ++ beBytes 4 t.rw.filled.toNat ++ beBytes 4 t.rw.release.toNat ++
          beBytes 2 (freeSlots t.rw)) s (raiseRingLow s t)) ∧
    (n ≤ 65535 → Answers (.setRingLow n) .ok (beBytes 2 n) s
      (raiseRingLow s { s with rw := { s.rw with lowThreshold := n } })) ∧
    (∀ (t : State) (below : RingWriter → Prop),
      (∀ rw, below rw ↔ ∃ p, rw.place = some p ∧ p.capacity - (rw.reserve - rw.release).toNat < rw.lowThreshold) →
      (¬ below s.rw → below t.rw → raiseRingLow s t = { t with au := { t.au with pending := t.au.pending ||| 0x20#8 } }) ∧
      (below s.rw ∨ ¬ below t.rw → raiseRingLow s t = t))

/-! ## Invariants -/

/-- Every step keeps the journal's invariant: one OPEN and one cut bank at most, OPEN exactly while RECORDING, FREE banks at their
FREE values, distinct epochs in range, Power-Cut Pending only behind a cut bank, nothing open or cut in TRANSPARENT mode
(R2, R25, R27, R49, R51, R63). -/
def Obligations.JournalInvariantKept : Prop :=
  ∀ s t : State, QueueInv s → JournalInv s → step s = .next t → QueueInv t ∧ JournalInv t

/-- Every step keeps the Hold Queue's invariant: it is empty whenever no bank is SETTLING or DRAINING, its OWN entries wait on
granules listed in that bank, and nothing that could be released waits (R78, R80). -/
def Obligations.HoldInvariantKept : Prop :=
  ∀ s t : State, QueueInv s → JournalInv s → HoldInv s → step s = .next t → HoldInv t

/-- Every step keeps the tables' invariant: every ACTIVE window in the field ranges, inside the host space and the Memory Limit,
apart from the other windows of its domain and, when READ_WRITE, from the ring region, which lies inside the Memory Limit
(R13, R16, R17, R18, R98). -/
def Obligations.WindowInvariantKept : Prop :=
  ∀ s t : State, WindowInv s → step s = .next t → WindowInv t

/-- Every step keeps the ring's invariant: used slots within the capacity, filled between release and reserve, the slot table the
slots from filled to reserve in order at consecutive positions, its head never DONE, and a Pending End Marker only without a free
slot (R100, R101, R102, R106, R107). -/
def Obligations.RingInvariantKept : Prop :=
  ∀ s t : State, RingInv s → step s = .next t → RingInv t

/-- Every step keeps both banks' lists as R38 and R39 say them (no granule and no window number twice, 4096 entries and 64 spill
entries at most, a spill only at a full list, the listed count the list's length), and, on its own, the bounds of these: the
tracker, the Hold Queue, the copies in flight, the Epoch Log, the fault records and the lost count, the tags in use and the
OUTSTANDING ones, the two limits, the Copy Share and its counter (R38, R39, R70, R71, R83, R115, R133, R146, R147, R150, R151,
R161). The class queues (R145), the settle counts (R35) and the Transparent Write Count (R50) are not among them. -/
def Obligations.TableBoundsKept : Prop :=
  ∀ s t : State, step s = .next t → (DirtyInv s → DirtyInv t) ∧ (CapacityInv s → CapacityInv t)

/-- The invariants hold at State.reset and after every power-on reset, whatever the state before it (R24, R25, R100, R114,
R143; the pin levels of State.reset are notes/assumptions/2.md). -/
def Obligations.InvariantsAtReset : Prop :=
  Inv State.reset ∧ QueueInv State.reset ∧
    ∀ s t u, s.pins.rstN = true → exec .rstNAssert s = .next t → exec .rstNRelease t = .next u → Inv t ∧ Inv u

end
end

