-- ==== Sys2Proof/Laws/State.lean ====
section
/-! SUPPORT. What each update of the state leaves alone, field by field, and what it puts in its field: the lemmas that save a
proof from unfolding an update. -/

namespace Sys2Proof.Machine

/-! ## Frames of the single updates -/

@[simp] theorem raiseCause_frame (c : Cause) (s : State) :
    (raiseCause c s).pins = s.pins ∧ (raiseCause c s).timestamp = s.timestamp ∧ (raiseCause c s).wu = s.wu ∧ (raiseCause c
    s).ju = s.ju ∧ (raiseCause c s).ec = s.ec ∧ (raiseCause c s).ce = s.ce ∧ (raiseCause c s).rw = s.rw ∧ (raiseCause c
    s).dp = s.dp ∧ (raiseCause c s).fq = s.fq ∧ (raiseCause c s).tm = s.tm ∧ (raiseCause c s).up = s.up ∧ (raiseCause c
    s).mp = s.mp ∧ (raiseCause c s).out = s.out ∧ (raiseCause c s).pending = s.pending := ⟨rfl, rfl, rfl, rfl, rfl, rfl, rfl, rfl, rfl, rfl, rfl, rfl, rfl, rfl⟩

@[simp] theorem snapshotCounters_frame (e : Option Nat) (s : State) :
    (snapshotCounters e s).pins = s.pins ∧ (snapshotCounters e s).timestamp = s.timestamp ∧ (snapshotCounters e s).wu =
    s.wu ∧ (snapshotCounters e s).ju = s.ju ∧ (snapshotCounters e s).ec = s.ec ∧ (snapshotCounters e s).ce = s.ce ∧
    (snapshotCounters e s).rw = s.rw ∧ (snapshotCounters e s).dp = s.dp ∧ (snapshotCounters e s).fq = s.fq ∧
    (snapshotCounters e s).au = s.au ∧ (snapshotCounters e s).up = s.up ∧ (snapshotCounters e s).mp = s.mp ∧
    (snapshotCounters e s).out = s.out ∧ (snapshotCounters e s).pending = s.pending := ⟨rfl, rfl, rfl, rfl, rfl, rfl, rfl, rfl, rfl, rfl, rfl, rfl, rfl, rfl⟩

@[simp] theorem setWindow_frame (n : Nat) (w : Option Window) (s : State) :
    (setWindow n w s).pins = s.pins ∧ (setWindow n w s).timestamp = s.timestamp ∧ (setWindow n w s).ju = s.ju ∧ (setWindow
    n w s).ec = s.ec ∧ (setWindow n w s).ce = s.ce ∧ (setWindow n w s).rw = s.rw ∧ (setWindow n w s).dp = s.dp ∧
    (setWindow n w s).fq = s.fq ∧ (setWindow n w s).au = s.au ∧ (setWindow n w s).tm = s.tm ∧ (setWindow n w s).up = s.up
    ∧ (setWindow n w s).mp = s.mp ∧ (setWindow n w s).out = s.out ∧ (setWindow n w s).pending = s.pending := ⟨rfl, rfl, rfl, rfl, rfl, rfl, rfl, rfl, rfl, rfl, rfl, rfl, rfl, rfl⟩

@[simp] theorem changeEntry_frame (n : Nat) (f : TrackerEntry → TrackerEntry) (s : State) :
    (changeEntry n f s).pins = s.pins ∧ (changeEntry n f s).timestamp = s.timestamp ∧ (changeEntry n f s).wu = s.wu ∧
    (changeEntry n f s).ju = s.ju ∧ (changeEntry n f s).ec = s.ec ∧ (changeEntry n f s).ce = s.ce ∧ (changeEntry n f s).rw
    = s.rw ∧ (changeEntry n f s).dp = s.dp ∧ (changeEntry n f s).fq = s.fq ∧ (changeEntry n f s).au = s.au ∧ (changeEntry
    n f s).tm = s.tm ∧ (changeEntry n f s).mp = s.mp ∧ (changeEntry n f s).out = s.out ∧ (changeEntry n f s).pending =
    s.pending := ⟨rfl, rfl, rfl, rfl, rfl, rfl, rfl, rfl, rfl, rfl, rfl, rfl, rfl, rfl⟩

@[simp] theorem pushPass_frame (r : Request) (s : State) :
    (pushPass r s).pins = s.pins ∧ (pushPass r s).timestamp = s.timestamp ∧ (pushPass r s).wu = s.wu ∧ (pushPass r s).ju =
    s.ju ∧ (pushPass r s).ec = s.ec ∧ (pushPass r s).ce = s.ce ∧ (pushPass r s).rw = s.rw ∧ (pushPass r s).fq = s.fq ∧
    (pushPass r s).au = s.au ∧ (pushPass r s).tm = s.tm ∧ (pushPass r s).up = s.up ∧ (pushPass r s).mp = s.mp ∧ (pushPass
    r s).out = s.out ∧ (pushPass r s).pending = s.pending := ⟨rfl, rfl, rfl, rfl, rfl, rfl, rfl, rfl, rfl, rfl, rfl, rfl, rfl, rfl⟩

@[simp] theorem pushUrgent_frame (rs : List Request) (s : State) :
    (pushUrgent rs s).pins = s.pins ∧ (pushUrgent rs s).timestamp = s.timestamp ∧ (pushUrgent rs s).wu = s.wu ∧
    (pushUrgent rs s).ju = s.ju ∧ (pushUrgent rs s).ec = s.ec ∧ (pushUrgent rs s).ce = s.ce ∧ (pushUrgent rs s).rw = s.rw
    ∧ (pushUrgent rs s).fq = s.fq ∧ (pushUrgent rs s).au = s.au ∧ (pushUrgent rs s).tm = s.tm ∧ (pushUrgent rs s).up =
    s.up ∧ (pushUrgent rs s).mp = s.mp ∧ (pushUrgent rs s).out = s.out ∧ (pushUrgent rs s).pending = s.pending := ⟨rfl, rfl, rfl, rfl, rfl, rfl, rfl, rfl, rfl, rfl, rfl, rfl, rfl, rfl⟩

@[simp] theorem pushBackground_frame (rs : List Request) (s : State) :
    (pushBackground rs s).pins = s.pins ∧ (pushBackground rs s).timestamp = s.timestamp ∧ (pushBackground rs s).wu = s.wu
    ∧ (pushBackground rs s).ju = s.ju ∧ (pushBackground rs s).ec = s.ec ∧ (pushBackground rs s).ce = s.ce ∧
    (pushBackground rs s).rw = s.rw ∧ (pushBackground rs s).fq = s.fq ∧ (pushBackground rs s).au = s.au ∧ (pushBackground
    rs s).tm = s.tm ∧ (pushBackground rs s).up = s.up ∧ (pushBackground rs s).mp = s.mp ∧ (pushBackground rs s).out =
    s.out ∧ (pushBackground rs s).pending = s.pending := ⟨rfl, rfl, rfl, rfl, rfl, rfl, rfl, rfl, rfl, rfl, rfl, rfl, rfl, rfl⟩

@[simp] theorem reserveSlot_frame (u : SlotUse) (s : State) :
    (reserveSlot u s).pins = s.pins ∧ (reserveSlot u s).timestamp = s.timestamp ∧ (reserveSlot u s).wu = s.wu ∧
    (reserveSlot u s).ju = s.ju ∧ (reserveSlot u s).ec = s.ec ∧ (reserveSlot u s).ce = s.ce ∧ (reserveSlot u s).dp = s.dp
    ∧ (reserveSlot u s).fq = s.fq ∧ (reserveSlot u s).au = s.au ∧ (reserveSlot u s).tm = s.tm ∧ (reserveSlot u s).up =
    s.up ∧ (reserveSlot u s).mp = s.mp ∧ (reserveSlot u s).out = s.out ∧ (reserveSlot u s).pending = s.pending := ⟨rfl, rfl, rfl, rfl, rfl, rfl, rfl, rfl, rfl, rfl, rfl, rfl, rfl, rfl⟩

@[simp] theorem changeSlot_frame (q : Seq) (f : Slot → Slot) (s : State) :
    (changeSlot q f s).pins = s.pins ∧ (changeSlot q f s).timestamp = s.timestamp ∧ (changeSlot q f s).wu = s.wu ∧
    (changeSlot q f s).ju = s.ju ∧ (changeSlot q f s).ec = s.ec ∧ (changeSlot q f s).ce = s.ce ∧ (changeSlot q f s).dp =
    s.dp ∧ (changeSlot q f s).fq = s.fq ∧ (changeSlot q f s).au = s.au ∧ (changeSlot q f s).tm = s.tm ∧ (changeSlot q f
    s).up = s.up ∧ (changeSlot q f s).mp = s.mp ∧ (changeSlot q f s).out = s.out ∧ (changeSlot q f s).pending = s.pending := ⟨rfl, rfl, rfl, rfl, rfl, rfl, rfl, rfl, rfl, rfl, rfl, rfl, rfl, rfl⟩

@[simp] theorem startRecord_frame (q : Seq) (w : RecordWrite) (s : State) :
    (startRecord q w s).pins = s.pins ∧ (startRecord q w s).timestamp = s.timestamp ∧ (startRecord q w s).wu = s.wu ∧
    (startRecord q w s).ju = s.ju ∧ (startRecord q w s).ec = s.ec ∧ (startRecord q w s).ce = s.ce ∧ (startRecord q w s).dp
    = s.dp ∧ (startRecord q w s).fq = s.fq ∧ (startRecord q w s).au = s.au ∧ (startRecord q w s).tm = s.tm ∧ (startRecord
    q w s).up = s.up ∧ (startRecord q w s).mp = s.mp ∧ (startRecord q w s).out = s.out ∧ (startRecord q w s).pending =
    s.pending := ⟨rfl, rfl, rfl, rfl, rfl, rfl, rfl, rfl, rfl, rfl, rfl, rfl, rfl, rfl⟩

@[simp] theorem setPowerCutPending_frame (v : Bool) (s : State) :
    (setPowerCutPending v s).pins = s.pins ∧ (setPowerCutPending v s).timestamp = s.timestamp ∧ (setPowerCutPending v
    s).wu = s.wu ∧ (setPowerCutPending v s).ju = s.ju ∧ (setPowerCutPending v s).ce = s.ce ∧ (setPowerCutPending v s).rw =
    s.rw ∧ (setPowerCutPending v s).dp = s.dp ∧ (setPowerCutPending v s).fq = s.fq ∧ (setPowerCutPending v s).au = s.au ∧
    (setPowerCutPending v s).tm = s.tm ∧ (setPowerCutPending v s).up = s.up ∧ (setPowerCutPending v s).mp = s.mp ∧
    (setPowerCutPending v s).out = s.out ∧ (setPowerCutPending v s).pending = s.pending := ⟨rfl, rfl, rfl, rfl, rfl, rfl, rfl, rfl, rfl, rfl, rfl, rfl, rfl, rfl⟩

@[simp] theorem setJournal_frame (j : Journal) (s : State) :
    (setJournal j s).pins = s.pins ∧ (setJournal j s).timestamp = s.timestamp ∧ (setJournal j s).wu = s.wu ∧ (setJournal j
    s).ju = s.ju ∧ (setJournal j s).ce = s.ce ∧ (setJournal j s).rw = s.rw ∧ (setJournal j s).dp = s.dp ∧ (setJournal j
    s).fq = s.fq ∧ (setJournal j s).au = s.au ∧ (setJournal j s).tm = s.tm ∧ (setJournal j s).up = s.up ∧ (setJournal j
    s).mp = s.mp ∧ (setJournal j s).out = s.out ∧ (setJournal j s).pending = s.pending := ⟨rfl, rfl, rfl, rfl, rfl, rfl, rfl, rfl, rfl, rfl, rfl, rfl, rfl, rfl⟩

@[simp] theorem appendLog_frame (r : LogRecord) (s : State) :
    (appendLog r s).pins = s.pins ∧ (appendLog r s).timestamp = s.timestamp ∧ (appendLog r s).wu = s.wu ∧ (appendLog r
    s).ju = s.ju ∧ (appendLog r s).ce = s.ce ∧ (appendLog r s).rw = s.rw ∧ (appendLog r s).dp = s.dp ∧ (appendLog r s).fq
    = s.fq ∧ (appendLog r s).au = s.au ∧ (appendLog r s).tm = s.tm ∧ (appendLog r s).up = s.up ∧ (appendLog r s).mp = s.mp
    ∧ (appendLog r s).out = s.out ∧ (appendLog r s).pending = s.pending := ⟨rfl, rfl, rfl, rfl, rfl, rfl, rfl, rfl, rfl, rfl, rfl, rfl, rfl, rfl⟩

@[simp] theorem stopTimers_frame (g e : Nat) (s : State) :
    (stopTimers g e s).pins = s.pins ∧ (stopTimers g e s).timestamp = s.timestamp ∧ (stopTimers g e s).wu = s.wu ∧
    (stopTimers g e s).ju = s.ju ∧ (stopTimers g e s).ec = s.ec ∧ (stopTimers g e s).rw = s.rw ∧ (stopTimers g e s).dp =
    s.dp ∧ (stopTimers g e s).fq = s.fq ∧ (stopTimers g e s).au = s.au ∧ (stopTimers g e s).tm = s.tm ∧ (stopTimers g e
    s).up = s.up ∧ (stopTimers g e s).mp = s.mp ∧ (stopTimers g e s).out = s.out ∧ (stopTimers g e s).pending = s.pending := ⟨rfl, rfl, rfl, rfl, rfl, rfl, rfl, rfl, rfl, rfl, rfl, rfl, rfl, rfl⟩

@[simp] theorem removeCopy_frame (q : Seq) (s : State) :
    (removeCopy q s).pins = s.pins ∧ (removeCopy q s).timestamp = s.timestamp ∧ (removeCopy q s).wu = s.wu ∧ (removeCopy q
    s).ju = s.ju ∧ (removeCopy q s).ec = s.ec ∧ (removeCopy q s).rw = s.rw ∧ (removeCopy q s).dp = s.dp ∧ (removeCopy q
    s).fq = s.fq ∧ (removeCopy q s).au = s.au ∧ (removeCopy q s).tm = s.tm ∧ (removeCopy q s).up = s.up ∧ (removeCopy q
    s).mp = s.mp ∧ (removeCopy q s).out = s.out ∧ (removeCopy q s).pending = s.pending := ⟨rfl, rfl, rfl, rfl, rfl, rfl, rfl, rfl, rfl, rfl, rfl, rfl, rfl, rfl⟩

@[simp] theorem resolveRead_frame (q : Seq) (k : Nat) (d : Option (List Byte)) (s : State) :
    (resolveRead q k d s).pins = s.pins ∧ (resolveRead q k d s).timestamp = s.timestamp ∧ (resolveRead q k d s).wu = s.wu
    ∧ (resolveRead q k d s).ju = s.ju ∧ (resolveRead q k d s).ec = s.ec ∧ (resolveRead q k d s).rw = s.rw ∧ (resolveRead q
    k d s).dp = s.dp ∧ (resolveRead q k d s).fq = s.fq ∧ (resolveRead q k d s).au = s.au ∧ (resolveRead q k d s).tm = s.tm
    ∧ (resolveRead q k d s).up = s.up ∧ (resolveRead q k d s).mp = s.mp ∧ (resolveRead q k d s).out = s.out ∧ (resolveRead
    q k d s).pending = s.pending := ⟨rfl, rfl, rfl, rfl, rfl, rfl, rfl, rfl, rfl, rfl, rfl, rfl, rfl, rfl⟩

@[simp] theorem dropTag_frame (n : Nat) (s : State) :
    (dropTag n s).pins = s.pins ∧ (dropTag n s).timestamp = s.timestamp ∧ (dropTag n s).wu = s.wu ∧ (dropTag n s).ju =
    s.ju ∧ (dropTag n s).ec = s.ec ∧ (dropTag n s).ce = s.ce ∧ (dropTag n s).rw = s.rw ∧ (dropTag n s).fq = s.fq ∧
    (dropTag n s).au = s.au ∧ (dropTag n s).tm = s.tm ∧ (dropTag n s).up = s.up ∧ (dropTag n s).mp = s.mp ∧ (dropTag n
    s).out = s.out ∧ (dropTag n s).pending = s.pending := ⟨rfl, rfl, rfl, rfl, rfl, rfl, rfl, rfl, rfl, rfl, rfl, rfl, rfl, rfl⟩

@[simp] theorem expireTag_frame (n : Nat) (s : State) :
    (expireTag n s).pins = s.pins ∧ (expireTag n s).timestamp = s.timestamp ∧ (expireTag n s).wu = s.wu ∧ (expireTag n
    s).ju = s.ju ∧ (expireTag n s).ec = s.ec ∧ (expireTag n s).ce = s.ce ∧ (expireTag n s).rw = s.rw ∧ (expireTag n s).fq
    = s.fq ∧ (expireTag n s).au = s.au ∧ (expireTag n s).tm = s.tm ∧ (expireTag n s).up = s.up ∧ (expireTag n s).mp = s.mp
    ∧ (expireTag n s).out = s.out ∧ (expireTag n s).pending = s.pending := ⟨rfl, rfl, rfl, rfl, rfl, rfl, rfl, rfl, rfl, rfl, rfl, rfl, rfl, rfl⟩

@[simp] theorem countMicrosecond_frame (s : State) :
    (countMicrosecond s).pins = s.pins ∧ (countMicrosecond s).wu = s.wu ∧ (countMicrosecond s).ju = s.ju ∧
    (countMicrosecond s).ec = s.ec ∧ (countMicrosecond s).rw = s.rw ∧ (countMicrosecond s).fq = s.fq ∧ (countMicrosecond
    s).au = s.au ∧ (countMicrosecond s).tm = s.tm ∧ (countMicrosecond s).up = s.up ∧ (countMicrosecond s).mp = s.mp ∧
    (countMicrosecond s).out = s.out ∧ (countMicrosecond s).pending = s.pending := ⟨rfl, rfl, rfl, rfl, rfl, rfl, rfl, rfl, rfl, rfl, rfl, rfl⟩

@[simp] theorem setCsN_frame (v : Bool) (s : State) :
    (setCsN v s).timestamp = s.timestamp ∧ (setCsN v s).wu = s.wu ∧ (setCsN v s).ju = s.ju ∧ (setCsN v s).ec = s.ec ∧
    (setCsN v s).ce = s.ce ∧ (setCsN v s).rw = s.rw ∧ (setCsN v s).dp = s.dp ∧ (setCsN v s).fq = s.fq ∧ (setCsN v s).au =
    s.au ∧ (setCsN v s).tm = s.tm ∧ (setCsN v s).up = s.up ∧ (setCsN v s).mp = s.mp ∧ (setCsN v s).out = s.out ∧ (setCsN v
    s).pending = s.pending := ⟨rfl, rfl, rfl, rfl, rfl, rfl, rfl, rfl, rfl, rfl, rfl, rfl, rfl, rfl⟩

@[simp] theorem setPortRstN_frame (v : Bool) (s : State) :
    (setPortRstN v s).timestamp = s.timestamp ∧ (setPortRstN v s).wu = s.wu ∧ (setPortRstN v s).ju = s.ju ∧ (setPortRstN v
    s).ec = s.ec ∧ (setPortRstN v s).ce = s.ce ∧ (setPortRstN v s).rw = s.rw ∧ (setPortRstN v s).dp = s.dp ∧ (setPortRstN
    v s).fq = s.fq ∧ (setPortRstN v s).au = s.au ∧ (setPortRstN v s).tm = s.tm ∧ (setPortRstN v s).up = s.up ∧
    (setPortRstN v s).mp = s.mp ∧ (setPortRstN v s).out = s.out ∧ (setPortRstN v s).pending = s.pending := ⟨rfl, rfl, rfl, rfl, rfl, rfl, rfl, rfl, rfl, rfl, rfl, rfl, rfl, rfl⟩

@[simp] theorem setPwrwarn_frame (v : Bool) (s : State) :
    (setPwrwarn v s).timestamp = s.timestamp ∧ (setPwrwarn v s).wu = s.wu ∧ (setPwrwarn v s).ju = s.ju ∧ (setPwrwarn v
    s).ec = s.ec ∧ (setPwrwarn v s).ce = s.ce ∧ (setPwrwarn v s).rw = s.rw ∧ (setPwrwarn v s).dp = s.dp ∧ (setPwrwarn v
    s).fq = s.fq ∧ (setPwrwarn v s).au = s.au ∧ (setPwrwarn v s).tm = s.tm ∧ (setPwrwarn v s).up = s.up ∧ (setPwrwarn v
    s).mp = s.mp ∧ (setPwrwarn v s).out = s.out ∧ (setPwrwarn v s).pending = s.pending := ⟨rfl, rfl, rfl, rfl, rfl, rfl, rfl, rfl, rfl, rfl, rfl, rfl, rfl, rfl⟩

@[simp] theorem placeRing_frame (p : Option RingPlace) (s : State) :
    (placeRing p s).pins = s.pins ∧ (placeRing p s).timestamp = s.timestamp ∧ (placeRing p s).wu = s.wu ∧ (placeRing p
    s).ju = s.ju ∧ (placeRing p s).ec = s.ec ∧ (placeRing p s).ce = s.ce ∧ (placeRing p s).dp = s.dp ∧ (placeRing p s).fq
    = s.fq ∧ (placeRing p s).au = s.au ∧ (placeRing p s).tm = s.tm ∧ (placeRing p s).up = s.up ∧ (placeRing p s).mp = s.mp
    ∧ (placeRing p s).out = s.out ∧ (placeRing p s).pending = s.pending := ⟨rfl, rfl, rfl, rfl, rfl, rfl, rfl, rfl, rfl, rfl, rfl, rfl, rfl, rfl⟩

@[simp] theorem setCounterAt_frame (n : Nat) (c : Counter) (s : State) :
    (setCounterAt n c s).pins = s.pins ∧ (setCounterAt n c s).timestamp = s.timestamp ∧ (setCounterAt n c s).wu = s.wu ∧
    (setCounterAt n c s).ju = s.ju ∧ (setCounterAt n c s).ec = s.ec ∧ (setCounterAt n c s).ce = s.ce ∧ (setCounterAt n c
    s).rw = s.rw ∧ (setCounterAt n c s).dp = s.dp ∧ (setCounterAt n c s).fq = s.fq ∧ (setCounterAt n c s).au = s.au ∧
    (setCounterAt n c s).up = s.up ∧ (setCounterAt n c s).mp = s.mp ∧ (setCounterAt n c s).out = s.out ∧ (setCounterAt n c
    s).pending = s.pending := ⟨rfl, rfl, rfl, rfl, rfl, rfl, rfl, rfl, rfl, rfl, rfl, rfl, rfl, rfl⟩

@[simp] theorem setPending_frame (q : List Instr) (s : State) :
    (setPending q s).pins = s.pins ∧ (setPending q s).timestamp = s.timestamp ∧ (setPending q s).wu = s.wu ∧ (setPending q
    s).ju = s.ju ∧ (setPending q s).ec = s.ec ∧ (setPending q s).ce = s.ce ∧ (setPending q s).rw = s.rw ∧ (setPending q
    s).dp = s.dp ∧ (setPending q s).fq = s.fq ∧ (setPending q s).au = s.au ∧ (setPending q s).tm = s.tm ∧ (setPending q
    s).up = s.up ∧ (setPending q s).mp = s.mp ∧ (setPending q s).out = s.out := ⟨rfl, rfl, rfl, rfl, rfl, rfl, rfl, rfl, rfl, rfl, rfl, rfl, rfl, rfl⟩

@[simp] theorem setBank_frame (i : BankId) (b : Bank) (s : State) :
    (setBank i b s).pins = s.pins ∧ (setBank i b s).timestamp = s.timestamp ∧ (setBank i b s).wu = s.wu ∧
    (setBank i b s).ec = s.ec ∧ (setBank i b s).ce = s.ce ∧ (setBank i b s).rw = s.rw ∧ (setBank i b s).dp = s.dp ∧
    (setBank i b s).fq = s.fq ∧ (setBank i b s).au = s.au ∧ (setBank i b s).tm = s.tm ∧ (setBank i b s).up = s.up ∧
    (setBank i b s).mp = s.mp ∧ (setBank i b s).out = s.out ∧ (setBank i b s).pending = s.pending := by
  cases i <;> exact ⟨rfl, rfl, rfl, rfl, rfl, rfl, rfl, rfl, rfl, rfl, rfl, rfl, rfl, rfl⟩

/-! ## Banks -/

@[simp] theorem BankId.other_other (i : BankId) : i.other.other = i := by cases i <;> rfl

@[simp] theorem BankId.other_ne (i : BankId) : i.other ≠ i := by cases i <;> decide

@[simp] theorem BankId.ne_other (i : BankId) : i ≠ i.other := by cases i <;> decide

theorem BankId.eq_or_other (i j : BankId) : j = i ∨ j = i.other := by cases i <;> cases j <;> decide

@[simp] theorem bank_setBank (i : BankId) (b : Bank) (s : State) : bank (setBank i b s) i = b := by cases i <;> rfl

@[simp] theorem bank_other_setBank (i : BankId) (b : Bank) (s : State) : bank (setBank i b s) i.other = bank s i.other := by
  cases i <;> rfl

@[simp] theorem bank_setBank_other (i : BankId) (b : Bank) (s : State) : bank (setBank i.other b s) i = bank s i := by
  cases i <;> rfl

theorem bank_setBank_ne (i j : BankId) (b : Bank) (s : State) (h : j ≠ i) : bank (setBank i b s) j = bank s j := by
  cases i <;> cases j <;> first | rfl | exact absurd rfl h

@[simp] theorem setBank_setBank (i : BankId) (b c : Bank) (s : State) : setBank i b (setBank i c s) = setBank i b s := by
  cases i <;> rfl

@[simp] theorem setBank_bank (i : BankId) (s : State) : setBank i (bank s i) s = s := by cases i <;> rfl

/-- A bank is read from JU alone. -/
theorem bank_congr {s t : State} (h : s.ju = t.ju) (i : BankId) : bank s i = bank t i := by
  cases i <;> simp [bank, h]

/-! ## What the updates put in their fields -/

@[simp] theorem raiseCause_au (c : Cause) (s : State) :
    (raiseCause c s).au = { s.au with pending := s.au.pending ||| c.bit } := rfl

@[simp] theorem changeEntry_up (n : Nat) (f : TrackerEntry → TrackerEntry) (s : State) :
    (changeEntry n f s).up = { s.up with tracker := s.up.tracker.map fun e => if e.number = n then f e else e } := rfl

@[simp] theorem pushPass_dp (r : Request) (s : State) :
    (pushPass r s).dp = { s.dp with passThrough := s.dp.passThrough ++ [r] } := rfl

@[simp] theorem pushUrgent_dp (rs : List Request) (s : State) :
    (pushUrgent rs s).dp = { s.dp with urgent := s.dp.urgent ++ rs } := rfl

@[simp] theorem pushBackground_dp (rs : List Request) (s : State) :
    (pushBackground rs s).dp = { s.dp with background := s.dp.background ++ rs } := rfl

@[simp] theorem changeSlot_rw (q : Seq) (f : Slot → Slot) (s : State) :
    (changeSlot q f s).rw = { s.rw with slots := s.rw.slots.map fun x => if x.seq = q then f x else x } := rfl

@[simp] theorem setPowerCutPending_ec (v : Bool) (s : State) :
    (setPowerCutPending v s).ec = { s.ec with powerCutPending := v } := rfl

@[simp] theorem setJournal_ec (j : Journal) (s : State) : (setJournal j s).ec = { s.ec with journal := j } := rfl

@[simp] theorem appendLog_ec (r : LogRecord) (s : State) :
    (appendLog r s).ec = { s.ec with log := (r :: s.ec.log).take Config.logRecords } := rfl

@[simp] theorem removeCopy_ce (q : Seq) (s : State) :
    (removeCopy q s).ce = { s.ce with copies := s.ce.copies.filter fun c => decide (c.seq ≠ q) } := rfl

@[simp] theorem stopTimers_ce (g e : Nat) (s : State) :
    (stopTimers g e s).ce = { s.ce with holdQueue := s.ce.holdQueue.map (HoldEntry.stopFor g e) } := rfl

@[simp] theorem dropTag_dp (n : Nat) (s : State) :
    (dropTag n s).dp = { s.dp with tags := s.dp.tags.filter fun t => decide (t.number ≠ n) } := rfl

@[simp] theorem setWindow_wu (n : Nat) (w : Option Window) (s : State) :
    (setWindow n w s).wu = { s.wu with windows := s.wu.windows.setIfInBounds n w } := rfl

@[simp] theorem setPending_pending (q : List Instr) (s : State) : (setPending q s).pending = q := rfl

end Sys2Proof.Machine
end

