-- ==== Sys2Proof/Laws/Frames.lean ====
section
/-! SUPPORT. The frame of every shared operation: the parts of the state it leaves alone. -/

namespace Sys2Proof.Machine

/-- What every step of a fold leaves alone, the fold leaves alone. -/
theorem foldl_frame {α β : Type} {f : State → α → State} (get : State → β) (h : ∀ s x, get (f s x) = get s) (l : List α)
    (s : State) : get (l.foldl f s) = get s := by
  induction l generalizing s with
  | nil => rfl
  | cons x xs ih => exact (ih (f s x)).trans (h s x)

@[simp] theorem reportBy_frame (r : Report) (f : Counter → Nat) (s : State) :
    (reportBy r f s).pins = s.pins ∧ (reportBy r f s).timestamp = s.timestamp ∧ (reportBy r f s).wu = s.wu ∧ (reportBy r f
    s).ju = s.ju ∧ (reportBy r f s).ec = s.ec ∧ (reportBy r f s).ce = s.ce ∧ (reportBy r f s).rw = s.rw ∧ (reportBy r f
    s).dp = s.dp ∧ (reportBy r f s).fq = s.fq ∧ (reportBy r f s).up = s.up ∧ (reportBy r f s).mp = s.mp ∧ (reportBy r f
    s).out = s.out ∧ (reportBy r f s).pending = s.pending := by
  simp only [reportBy]
  (repeat' split) <;> simp

@[simp] theorem report_frame (r : Report) (n : Nat) (s : State) :
    (report r n s).pins = s.pins ∧ (report r n s).timestamp = s.timestamp ∧ (report r n s).wu = s.wu ∧ (report r n s).ju =
    s.ju ∧ (report r n s).ec = s.ec ∧ (report r n s).ce = s.ce ∧ (report r n s).rw = s.rw ∧ (report r n s).dp = s.dp ∧
    (report r n s).fq = s.fq ∧ (report r n s).up = s.up ∧ (report r n s).mp = s.mp ∧ (report r n s).out = s.out ∧ (report
    r n s).pending = s.pending := by
  simp only [report]; simp

@[simp] theorem reportFault_frame (k : FaultKind) (f : FaultFields) (s : State) :
    (reportFault k f s).pins = s.pins ∧ (reportFault k f s).timestamp = s.timestamp ∧ (reportFault k f s).wu = s.wu ∧
    (reportFault k f s).ju = s.ju ∧ (reportFault k f s).ec = s.ec ∧ (reportFault k f s).ce = s.ce ∧ (reportFault k f s).rw
    = s.rw ∧ (reportFault k f s).dp = s.dp ∧ (reportFault k f s).tm = s.tm ∧ (reportFault k f s).up = s.up ∧ (reportFault
    k f s).mp = s.mp ∧ (reportFault k f s).out = s.out ∧ (reportFault k f s).pending = s.pending := by
  simp only [reportFault]
  (repeat' split) <;> simp

@[simp] theorem endResetDrain_frame (s : State) :
    (endResetDrain s).pins = s.pins ∧ (endResetDrain s).timestamp = s.timestamp ∧ (endResetDrain s).wu = s.wu ∧
    (endResetDrain s).ju = s.ju ∧ (endResetDrain s).ec = s.ec ∧ (endResetDrain s).ce = s.ce ∧ (endResetDrain s).rw = s.rw
    ∧ (endResetDrain s).dp = s.dp ∧ (endResetDrain s).fq = s.fq ∧ (endResetDrain s).au = s.au ∧ (endResetDrain s).tm =
    s.tm ∧ (endResetDrain s).mp = s.mp ∧ (endResetDrain s).out = s.out ∧ (endResetDrain s).pending = s.pending := by
  simp only [endResetDrain]
  (repeat' split) <;> simp

@[simp] theorem dropEntry_frame (n : Nat) (s : State) :
    (dropEntry n s).pins = s.pins ∧ (dropEntry n s).timestamp = s.timestamp ∧ (dropEntry n s).wu = s.wu ∧ (dropEntry n
    s).ju = s.ju ∧ (dropEntry n s).ec = s.ec ∧ (dropEntry n s).ce = s.ce ∧ (dropEntry n s).rw = s.rw ∧ (dropEntry n s).dp
    = s.dp ∧ (dropEntry n s).fq = s.fq ∧ (dropEntry n s).au = s.au ∧ (dropEntry n s).tm = s.tm ∧ (dropEntry n s).mp = s.mp
    ∧ (dropEntry n s).out = s.out ∧ (dropEntry n s).pending = s.pending := by
  simp only [dropEntry]; simp

@[simp] theorem returnResponse_frame (e : TrackerEntry) (s : State) :
    (returnResponse e s).pins = s.pins ∧ (returnResponse e s).timestamp = s.timestamp ∧ (returnResponse e s).wu = s.wu ∧
    (returnResponse e s).ju = s.ju ∧ (returnResponse e s).ec = s.ec ∧ (returnResponse e s).ce = s.ce ∧ (returnResponse e
    s).rw = s.rw ∧ (returnResponse e s).dp = s.dp ∧ (returnResponse e s).fq = s.fq ∧ (returnResponse e s).up = s.up ∧
    (returnResponse e s).mp = s.mp ∧ (returnResponse e s).pending = s.pending := by
  simp only [returnResponse]
  (repeat' split) <;> simp

@[simp] theorem returnStream_frame (str : Stream) (s : State) :
    (returnStream str s).pins = s.pins ∧ (returnStream str s).timestamp = s.timestamp ∧ (returnStream str s).wu = s.wu ∧
    (returnStream str s).ju = s.ju ∧ (returnStream str s).ec = s.ec ∧ (returnStream str s).ce = s.ce ∧ (returnStream str
    s).rw = s.rw ∧ (returnStream str s).dp = s.dp ∧ (returnStream str s).fq = s.fq ∧ (returnStream str s).mp = s.mp ∧
    (returnStream str s).pending = s.pending := by
  simp only [returnStream, endResetDrain_frame]
  refine ⟨?_, ?_, ?_, ?_, ?_, ?_, ?_, ?_, ?_, ?_, ?_⟩
  · exact foldl_frame (·.pins) (by intros; simp) _ _
  · exact foldl_frame (·.timestamp) (by intros; simp) _ _
  · exact foldl_frame (·.wu) (by intros; simp) _ _
  · exact foldl_frame (·.ju) (by intros; simp) _ _
  · exact foldl_frame (·.ec) (by intros; simp) _ _
  · exact foldl_frame (·.ce) (by intros; simp) _ _
  · exact foldl_frame (·.rw) (by intros; simp) _ _
  · exact foldl_frame (·.dp) (by intros; simp) _ _
  · exact foldl_frame (·.fq) (by intros; simp) _ _
  · exact foldl_frame (·.mp) (by intros; simp) _ _
  · exact foldl_frame (·.pending) (by intros; simp) _ _

@[simp] theorem issueEntry_frame (n : Nat) (s : State) :
    (issueEntry n s).pins = s.pins ∧ (issueEntry n s).timestamp = s.timestamp ∧ (issueEntry n s).wu = s.wu ∧ (issueEntry n
    s).ju = s.ju ∧ (issueEntry n s).ec = s.ec ∧ (issueEntry n s).ce = s.ce ∧ (issueEntry n s).rw = s.rw ∧ (issueEntry n
    s).fq = s.fq ∧ (issueEntry n s).au = s.au ∧ (issueEntry n s).tm = s.tm ∧ (issueEntry n s).mp = s.mp ∧ (issueEntry n
    s).out = s.out ∧ (issueEntry n s).pending = s.pending := by
  simp only [issueEntry]
  (repeat' split) <;> simp

@[simp] theorem clearShareIfIdle_frame (s : State) :
    (clearShareIfIdle s).pins = s.pins ∧ (clearShareIfIdle s).timestamp = s.timestamp ∧ (clearShareIfIdle s).wu = s.wu ∧
    (clearShareIfIdle s).ju = s.ju ∧ (clearShareIfIdle s).ec = s.ec ∧ (clearShareIfIdle s).ce = s.ce ∧ (clearShareIfIdle
    s).rw = s.rw ∧ (clearShareIfIdle s).fq = s.fq ∧ (clearShareIfIdle s).au = s.au ∧ (clearShareIfIdle s).tm = s.tm ∧
    (clearShareIfIdle s).up = s.up ∧ (clearShareIfIdle s).mp = s.mp ∧ (clearShareIfIdle s).out = s.out ∧ (clearShareIfIdle
    s).pending = s.pending := by
  simp only [clearShareIfIdle]
  (repeat' split) <;> simp

@[simp] theorem promoteReads_frame (q : Seq) (s : State) :
    (promoteReads q s).pins = s.pins ∧ (promoteReads q s).timestamp = s.timestamp ∧ (promoteReads q s).wu = s.wu ∧
    (promoteReads q s).ju = s.ju ∧ (promoteReads q s).ec = s.ec ∧ (promoteReads q s).ce = s.ce ∧ (promoteReads q s).rw =
    s.rw ∧ (promoteReads q s).fq = s.fq ∧ (promoteReads q s).au = s.au ∧ (promoteReads q s).tm = s.tm ∧ (promoteReads q
    s).up = s.up ∧ (promoteReads q s).mp = s.mp ∧ (promoteReads q s).out = s.out ∧ (promoteReads q s).pending = s.pending := by
  simp only [promoteReads]; simp

@[simp] theorem withdrawReads_frame (cs : List CopyOp) (s : State) :
    (withdrawReads cs s).pins = s.pins ∧ (withdrawReads cs s).timestamp = s.timestamp ∧ (withdrawReads cs s).wu = s.wu ∧
    (withdrawReads cs s).ju = s.ju ∧ (withdrawReads cs s).ec = s.ec ∧ (withdrawReads cs s).ce = s.ce ∧ (withdrawReads cs
    s).rw = s.rw ∧ (withdrawReads cs s).fq = s.fq ∧ (withdrawReads cs s).au = s.au ∧ (withdrawReads cs s).tm = s.tm ∧
    (withdrawReads cs s).up = s.up ∧ (withdrawReads cs s).mp = s.mp ∧ (withdrawReads cs s).out = s.out ∧ (withdrawReads cs
    s).pending = s.pending := by
  simp only [withdrawReads]; simp

@[simp] theorem raiseRingLow_frame (b : State) (s : State) :
    (raiseRingLow b s).pins = s.pins ∧ (raiseRingLow b s).timestamp = s.timestamp ∧ (raiseRingLow b s).wu = s.wu ∧
    (raiseRingLow b s).ju = s.ju ∧ (raiseRingLow b s).ec = s.ec ∧ (raiseRingLow b s).ce = s.ce ∧ (raiseRingLow b s).rw =
    s.rw ∧ (raiseRingLow b s).dp = s.dp ∧ (raiseRingLow b s).fq = s.fq ∧ (raiseRingLow b s).tm = s.tm ∧ (raiseRingLow b
    s).up = s.up ∧ (raiseRingLow b s).mp = s.mp ∧ (raiseRingLow b s).out = s.out ∧ (raiseRingLow b s).pending = s.pending := by
  simp only [raiseRingLow]
  (repeat' split) <;> simp

@[simp] theorem handOverData_frame (c : CopyOp) (s : State) :
    (handOverData c s).pins = s.pins ∧ (handOverData c s).timestamp = s.timestamp ∧ (handOverData c s).wu = s.wu ∧
    (handOverData c s).ju = s.ju ∧ (handOverData c s).ec = s.ec ∧ (handOverData c s).ce = s.ce ∧ (handOverData c s).fq =
    s.fq ∧ (handOverData c s).au = s.au ∧ (handOverData c s).tm = s.tm ∧ (handOverData c s).up = s.up ∧ (handOverData c
    s).mp = s.mp ∧ (handOverData c s).out = s.out ∧ (handOverData c s).pending = s.pending := by
  simp only [handOverData]
  (repeat' split) <;> simp

@[simp] theorem handOverVoid_frame (c : CopyOp) (s : State) :
    (handOverVoid c s).pins = s.pins ∧ (handOverVoid c s).timestamp = s.timestamp ∧ (handOverVoid c s).wu = s.wu ∧
    (handOverVoid c s).ju = s.ju ∧ (handOverVoid c s).ec = s.ec ∧ (handOverVoid c s).ce = s.ce ∧ (handOverVoid c s).fq =
    s.fq ∧ (handOverVoid c s).au = s.au ∧ (handOverVoid c s).tm = s.tm ∧ (handOverVoid c s).up = s.up ∧ (handOverVoid c
    s).mp = s.mp ∧ (handOverVoid c s).out = s.out ∧ (handOverVoid c s).pending = s.pending := by
  simp only [handOverVoid]
  (repeat' split) <;> simp

@[simp] theorem composeEnd_frame (b : Bank) (x : Slot) (s : State) :
    (composeEnd b x s).pins = s.pins ∧ (composeEnd b x s).timestamp = s.timestamp ∧ (composeEnd b x s).wu = s.wu ∧
    (composeEnd b x s).ju = s.ju ∧ (composeEnd b x s).ec = s.ec ∧ (composeEnd b x s).ce = s.ce ∧ (composeEnd b x s).fq =
    s.fq ∧ (composeEnd b x s).au = s.au ∧ (composeEnd b x s).tm = s.tm ∧ (composeEnd b x s).up = s.up ∧ (composeEnd b x
    s).mp = s.mp ∧ (composeEnd b x s).out = s.out ∧ (composeEnd b x s).pending = s.pending := by
  simp only [composeEnd]; simp

@[simp] theorem writeEndIfReady_frame (s : State) :
    (writeEndIfReady s).pins = s.pins ∧ (writeEndIfReady s).timestamp = s.timestamp ∧ (writeEndIfReady s).wu = s.wu ∧
    (writeEndIfReady s).ju = s.ju ∧ (writeEndIfReady s).ec = s.ec ∧ (writeEndIfReady s).ce = s.ce ∧ (writeEndIfReady s).fq
    = s.fq ∧ (writeEndIfReady s).au = s.au ∧ (writeEndIfReady s).tm = s.tm ∧ (writeEndIfReady s).up = s.up ∧
    (writeEndIfReady s).mp = s.mp ∧ (writeEndIfReady s).out = s.out ∧ (writeEndIfReady s).pending = s.pending := by
  simp only [writeEndIfReady]
  (repeat' split) <;> simp

@[simp] theorem reserveEnd_frame (s : State) :
    (reserveEnd s).pins = s.pins ∧ (reserveEnd s).timestamp = s.timestamp ∧ (reserveEnd s).wu = s.wu ∧ (reserveEnd s).ju =
    s.ju ∧ (reserveEnd s).ec = s.ec ∧ (reserveEnd s).ce = s.ce ∧ (reserveEnd s).fq = s.fq ∧ (reserveEnd s).au = s.au ∧
    (reserveEnd s).tm = s.tm ∧ (reserveEnd s).up = s.up ∧ (reserveEnd s).mp = s.mp ∧ (reserveEnd s).out = s.out ∧
    (reserveEnd s).pending = s.pending := by
  simp only [reserveEnd]; simp

@[simp] theorem requestEnd_frame (e : Option Nat) (s : State) :
    (requestEnd e s).pins = s.pins ∧ (requestEnd e s).timestamp = s.timestamp ∧ (requestEnd e s).wu = s.wu ∧ (requestEnd e
    s).ju = s.ju ∧ (requestEnd e s).ec = s.ec ∧ (requestEnd e s).ce = s.ce ∧ (requestEnd e s).fq = s.fq ∧ (requestEnd e
    s).au = s.au ∧ (requestEnd e s).tm = s.tm ∧ (requestEnd e s).up = s.up ∧ (requestEnd e s).mp = s.mp ∧ (requestEnd e
    s).out = s.out ∧ (requestEnd e s).pending = s.pending := by
  simp only [requestEnd]
  (repeat' split) <;> simp

@[simp] theorem startCopy_frame (i : BankId) (n : Nat) (h : Bool) (s : State) :
    (startCopy i n h s).pins = s.pins ∧ (startCopy i n h s).timestamp = s.timestamp ∧ (startCopy i n h s).wu = s.wu ∧
    (startCopy i n h s).ec = s.ec ∧ (startCopy i n h s).fq = s.fq ∧ (startCopy i n h s).up = s.up ∧ (startCopy i n h s).mp
    = s.mp ∧ (startCopy i n h s).out = s.out ∧ (startCopy i n h s).pending = s.pending := by
  simp only [startCopy]
  (repeat' split) <;> simp

@[simp] theorem startCopiesUpTo_frame (n : Nat) (s : State) :
    (startCopiesUpTo n s).pins = s.pins ∧ (startCopiesUpTo n s).timestamp = s.timestamp ∧ (startCopiesUpTo n s).wu = s.wu
    ∧ (startCopiesUpTo n s).ec = s.ec ∧ (startCopiesUpTo n s).fq = s.fq ∧ (startCopiesUpTo n s).up = s.up ∧
    (startCopiesUpTo n s).mp = s.mp ∧ (startCopiesUpTo n s).out = s.out ∧ (startCopiesUpTo n s).pending = s.pending := by
  induction n generalizing s with
  | zero => simp [startCopiesUpTo]
  | succ n ih =>
    simp only [startCopiesUpTo]
    (repeat' split) <;> simp [ih]

@[simp] theorem startCopies_frame (s : State) :
    (startCopies s).pins = s.pins ∧ (startCopies s).timestamp = s.timestamp ∧ (startCopies s).wu = s.wu ∧ (startCopies
    s).ec = s.ec ∧ (startCopies s).fq = s.fq ∧ (startCopies s).up = s.up ∧ (startCopies s).mp = s.mp ∧ (startCopies s).out
    = s.out ∧ (startCopies s).pending = s.pending := by
  simp only [startCopies]; simp

@[simp] theorem becomeClosing_frame (i : BankId) (s : State) :
    (becomeClosing i s).pins = s.pins ∧ (becomeClosing i s).timestamp = s.timestamp ∧ (becomeClosing i s).wu = s.wu ∧
    (becomeClosing i s).ec = s.ec ∧ (becomeClosing i s).ce = s.ce ∧ (becomeClosing i s).fq = s.fq ∧ (becomeClosing i s).au
    = s.au ∧ (becomeClosing i s).tm = s.tm ∧ (becomeClosing i s).up = s.up ∧ (becomeClosing i s).mp = s.mp ∧
    (becomeClosing i s).out = s.out ∧ (becomeClosing i s).pending = s.pending := by
  simp only [becomeClosing]; simp

@[simp] theorem closeIfResolved_frame (i : BankId) (s : State) :
    (closeIfResolved i s).pins = s.pins ∧ (closeIfResolved i s).timestamp = s.timestamp ∧ (closeIfResolved i s).wu = s.wu
    ∧ (closeIfResolved i s).ec = s.ec ∧ (closeIfResolved i s).ce = s.ce ∧ (closeIfResolved i s).fq = s.fq ∧
    (closeIfResolved i s).au = s.au ∧ (closeIfResolved i s).tm = s.tm ∧ (closeIfResolved i s).up = s.up ∧ (closeIfResolved
    i s).mp = s.mp ∧ (closeIfResolved i s).out = s.out ∧ (closeIfResolved i s).pending = s.pending := by
  simp only [closeIfResolved]
  (repeat' split) <;> simp

@[simp] theorem drainIfSettled_frame (i : BankId) (s : State) :
    (drainIfSettled i s).pins = s.pins ∧ (drainIfSettled i s).timestamp = s.timestamp ∧ (drainIfSettled i s).wu = s.wu ∧
    (drainIfSettled i s).ec = s.ec ∧ (drainIfSettled i s).fq = s.fq ∧ (drainIfSettled i s).up = s.up ∧ (drainIfSettled i
    s).mp = s.mp ∧ (drainIfSettled i s).out = s.out ∧ (drainIfSettled i s).pending = s.pending := by
  simp only [drainIfSettled]
  (repeat' split) <;> simp

@[simp] theorem countSettled_frame (e : Nat) (s : State) :
    (countSettled e s).pins = s.pins ∧ (countSettled e s).timestamp = s.timestamp ∧ (countSettled e s).wu = s.wu ∧
    (countSettled e s).ec = s.ec ∧ (countSettled e s).ce = s.ce ∧ (countSettled e s).rw = s.rw ∧
    (countSettled e s).dp = s.dp ∧ (countSettled e s).fq = s.fq ∧ (countSettled e s).au = s.au ∧
    (countSettled e s).tm = s.tm ∧ (countSettled e s).up = s.up ∧ (countSettled e s).mp = s.mp ∧
    (countSettled e s).out = s.out ∧ (countSettled e s).pending = s.pending := by
  simp only [countSettled]
  (repeat' split) <;> simp

@[simp] theorem drainEpoch_frame (e : Nat) (s : State) :
    (drainEpoch e s).pins = s.pins ∧ (drainEpoch e s).timestamp = s.timestamp ∧ (drainEpoch e s).wu = s.wu ∧
    (drainEpoch e s).ec = s.ec ∧ (drainEpoch e s).fq = s.fq ∧ (drainEpoch e s).up = s.up ∧
    (drainEpoch e s).mp = s.mp ∧ (drainEpoch e s).out = s.out ∧ (drainEpoch e s).pending = s.pending := by
  simp only [drainEpoch]
  (repeat' split) <;> simp

@[simp] theorem leaveCount_frame (e : TrackerEntry) (s : State) :
    (leaveCount e s).pins = s.pins ∧ (leaveCount e s).timestamp = s.timestamp ∧ (leaveCount e s).wu = s.wu ∧
    (leaveCount e s).ce = s.ce ∧ (leaveCount e s).rw = s.rw ∧ (leaveCount e s).dp = s.dp ∧
    (leaveCount e s).fq = s.fq ∧ (leaveCount e s).au = s.au ∧ (leaveCount e s).tm = s.tm ∧
    (leaveCount e s).up = s.up ∧ (leaveCount e s).mp = s.mp ∧ (leaveCount e s).out = s.out ∧
    (leaveCount e s).pending = s.pending := by
  simp only [leaveCount]
  (repeat' split) <;> simp

@[simp] theorem drainAfter_frame (e : TrackerEntry) (s : State) :
    (drainAfter e s).pins = s.pins ∧ (drainAfter e s).timestamp = s.timestamp ∧ (drainAfter e s).wu = s.wu ∧
    (drainAfter e s).ec = s.ec ∧ (drainAfter e s).fq = s.fq ∧ (drainAfter e s).up = s.up ∧
    (drainAfter e s).mp = s.mp ∧ (drainAfter e s).out = s.out ∧ (drainAfter e s).pending = s.pending := by
  simp only [drainAfter]
  (repeat' split) <;> simp

@[simp] theorem completeWrite_frame (e : TrackerEntry) (s : State) :
    (completeWrite e s).pins = s.pins ∧ (completeWrite e s).timestamp = s.timestamp ∧ (completeWrite e s).wu = s.wu ∧
    (completeWrite e s).fq = s.fq ∧ (completeWrite e s).up = s.up ∧ (completeWrite e s).mp = s.mp ∧ (completeWrite e
    s).out = s.out ∧ (completeWrite e s).pending = s.pending := by
  simp only [completeWrite]
  (repeat' split) <;> simp

@[simp] theorem openWith_frame (i : BankId) (e : Nat) (s : State) :
    (openWith i e s).pins = s.pins ∧ (openWith i e s).timestamp = s.timestamp ∧ (openWith i e s).wu = s.wu ∧ (openWith i e
    s).ec = s.ec ∧ (openWith i e s).ce = s.ce ∧ (openWith i e s).rw = s.rw ∧ (openWith i e s).dp = s.dp ∧ (openWith i e
    s).fq = s.fq ∧ (openWith i e s).au = s.au ∧ (openWith i e s).tm = s.tm ∧ (openWith i e s).up = s.up ∧ (openWith i e
    s).mp = s.mp ∧ (openWith i e s).out = s.out ∧ (openWith i e s).pending = s.pending := by
  simp only [openWith]; simp

@[simp] theorem acceptCut_frame (i : BankId) (c : CutSource) (s : State) :
    (acceptCut i c s).pins = s.pins ∧ (acceptCut i c s).timestamp = s.timestamp ∧ (acceptCut i c s).wu = s.wu ∧ (acceptCut
    i c s).fq = s.fq ∧ (acceptCut i c s).up = s.up ∧ (acceptCut i c s).mp = s.mp ∧ (acceptCut i c s).out = s.out ∧
    (acceptCut i c s).pending = s.pending := by
  cases c <;> simp [acceptCut]

@[simp] theorem heldPowerCut_frame (s : State) :
    (heldPowerCut s).pins = s.pins ∧ (heldPowerCut s).timestamp = s.timestamp ∧ (heldPowerCut s).wu = s.wu ∧ (heldPowerCut
    s).fq = s.fq ∧ (heldPowerCut s).up = s.up ∧ (heldPowerCut s).mp = s.mp ∧ (heldPowerCut s).out = s.out ∧ (heldPowerCut
    s).pending = s.pending := by
  simp only [heldPowerCut]
  (repeat' split) <;> simp

@[simp] theorem endEpoch_frame (i : BankId) (r : LogRecord) (s : State) :
    (endEpoch i r s).pins = s.pins ∧ (endEpoch i r s).timestamp = s.timestamp ∧ (endEpoch i r s).wu = s.wu ∧ (endEpoch i r
    s).ce = s.ce ∧ (endEpoch i r s).rw = s.rw ∧ (endEpoch i r s).dp = s.dp ∧ (endEpoch i r s).fq = s.fq ∧ (endEpoch i r
    s).tm = s.tm ∧ (endEpoch i r s).up = s.up ∧ (endEpoch i r s).mp = s.mp ∧ (endEpoch i r s).out = s.out ∧ (endEpoch i r
    s).pending = s.pending := by
  simp only [endEpoch]; simp

@[simp] theorem closeEpoch_frame (s : State) :
    (closeEpoch s).pins = s.pins ∧ (closeEpoch s).timestamp = s.timestamp ∧ (closeEpoch s).wu = s.wu ∧ (closeEpoch s).fq =
    s.fq ∧ (closeEpoch s).up = s.up ∧ (closeEpoch s).mp = s.mp ∧ (closeEpoch s).out = s.out ∧ (closeEpoch s).pending =
    s.pending := by
  simp only [closeEpoch]
  (repeat' split) <;> simp

@[simp] theorem finishSlot_frame (q : Seq) (s : State) :
    (finishSlot q s).pins = s.pins ∧ (finishSlot q s).timestamp = s.timestamp ∧ (finishSlot q s).wu = s.wu ∧ (finishSlot q
    s).fq = s.fq ∧ (finishSlot q s).up = s.up ∧ (finishSlot q s).mp = s.mp ∧ (finishSlot q s).out = s.out ∧ (finishSlot q
    s).pending = s.pending := by
  simp only [finishSlot]
  (repeat' split) <;> simp

@[simp] theorem resolveArea_frame (q : Seq) (f : Bool) (s : State) :
    (resolveArea q f s).pins = s.pins ∧ (resolveArea q f s).timestamp = s.timestamp ∧ (resolveArea q f s).wu = s.wu ∧
    (resolveArea q f s).fq = s.fq ∧ (resolveArea q f s).up = s.up ∧ (resolveArea q f s).mp = s.mp ∧ (resolveArea q f
    s).out = s.out ∧ (resolveArea q f s).pending = s.pending := by
  simp only [resolveArea]
  (repeat' split) <;> simp

@[simp] theorem uncountHold_frame (h : HoldEntry) (s : State) :
    (uncountHold h s).pins = s.pins ∧ (uncountHold h s).timestamp = s.timestamp ∧ (uncountHold h s).wu = s.wu ∧
    (uncountHold h s).ec = s.ec ∧ (uncountHold h s).ce = s.ce ∧ (uncountHold h s).rw = s.rw ∧ (uncountHold h s).dp = s.dp
    ∧ (uncountHold h s).fq = s.fq ∧ (uncountHold h s).au = s.au ∧ (uncountHold h s).tm = s.tm ∧ (uncountHold h s).up =
    s.up ∧ (uncountHold h s).mp = s.mp ∧ (uncountHold h s).out = s.out ∧ (uncountHold h s).pending = s.pending := by
  simp only [uncountHold]
  (repeat' split) <;> simp

@[simp] theorem releaseHold_frame (h : HoldEntry) (s : State) :
    (releaseHold s h).pins = s.pins ∧ (releaseHold s h).timestamp = s.timestamp ∧ (releaseHold s h).wu = s.wu ∧
    (releaseHold s h).ec = s.ec ∧ (releaseHold s h).ce = s.ce ∧ (releaseHold s h).rw = s.rw ∧ (releaseHold s h).fq = s.fq
    ∧ (releaseHold s h).au = s.au ∧ (releaseHold s h).tm = s.tm ∧ (releaseHold s h).mp = s.mp ∧ (releaseHold s h).out =
    s.out ∧ (releaseHold s h).pending = s.pending := by
  simp only [releaseHold]; simp

@[simp] theorem releaseScan_frame (s : State) :
    (releaseScan s).pins = s.pins ∧ (releaseScan s).timestamp = s.timestamp ∧ (releaseScan s).wu = s.wu ∧ (releaseScan
    s).ec = s.ec ∧ (releaseScan s).rw = s.rw ∧ (releaseScan s).fq = s.fq ∧ (releaseScan s).au = s.au ∧ (releaseScan s).tm
    = s.tm ∧ (releaseScan s).mp = s.mp ∧ (releaseScan s).out = s.out ∧ (releaseScan s).pending = s.pending := by
  simp only [releaseScan]
  refine ⟨?_, ?_, ?_, ?_, ?_, ?_, ?_, ?_, ?_, ?_, ?_⟩
  · exact (foldl_frame (·.pins) (by intros; simp) _ _).trans (by simp)
  · exact (foldl_frame (·.timestamp) (by intros; simp) _ _).trans (by simp)
  · exact (foldl_frame (·.wu) (by intros; simp) _ _).trans (by simp)
  · exact (foldl_frame (·.ec) (by intros; simp) _ _).trans (by simp)
  · exact (foldl_frame (·.rw) (by intros; simp) _ _).trans (by simp)
  · exact (foldl_frame (·.fq) (by intros; simp) _ _).trans (by simp)
  · exact (foldl_frame (·.au) (by intros; simp) _ _).trans (by simp)
  · exact (foldl_frame (·.tm) (by intros; simp) _ _).trans (by simp)
  · exact (foldl_frame (·.mp) (by intros; simp) _ _).trans (by simp)
  · exact (foldl_frame (·.out) (by intros; simp) _ _).trans (by simp)
  · exact (foldl_frame (·.pending) (by intros; simp) _ _).trans (by simp)

@[simp] theorem releaseAll_frame (s : State) :
    (releaseAll s).pins = s.pins ∧ (releaseAll s).timestamp = s.timestamp ∧ (releaseAll s).wu = s.wu ∧ (releaseAll s).ec =
    s.ec ∧ (releaseAll s).rw = s.rw ∧ (releaseAll s).fq = s.fq ∧ (releaseAll s).au = s.au ∧ (releaseAll s).tm = s.tm ∧
    (releaseAll s).mp = s.mp ∧ (releaseAll s).out = s.out ∧ (releaseAll s).pending = s.pending := by
  simp only [releaseAll]
  refine ⟨?_, ?_, ?_, ?_, ?_, ?_, ?_, ?_, ?_, ?_, ?_⟩
  · exact (foldl_frame (·.pins) (by intros; simp) _ _).trans (by simp)
  · exact (foldl_frame (·.timestamp) (by intros; simp) _ _).trans (by simp)
  · exact (foldl_frame (·.wu) (by intros; simp) _ _).trans (by simp)
  · exact (foldl_frame (·.ec) (by intros; simp) _ _).trans (by simp)
  · exact (foldl_frame (·.rw) (by intros; simp) _ _).trans (by simp)
  · exact (foldl_frame (·.fq) (by intros; simp) _ _).trans (by simp)
  · exact (foldl_frame (·.au) (by intros; simp) _ _).trans (by simp)
  · exact (foldl_frame (·.tm) (by intros; simp) _ _).trans (by simp)
  · exact (foldl_frame (·.mp) (by intros; simp) _ _).trans (by simp)
  · exact (foldl_frame (·.out) (by intros; simp) _ _).trans (by simp)
  · exact (foldl_frame (·.pending) (by intros; simp) _ _).trans (by simp)

@[simp] theorem endEntry_frame (i : BankId) (c : CopyOp) (g : Bool) (s : State) :
    (endEntry i c g s).pins = s.pins ∧ (endEntry i c g s).timestamp = s.timestamp ∧ (endEntry i c g s).wu = s.wu ∧
    (endEntry i c g s).ec = s.ec ∧ (endEntry i c g s).ce = s.ce ∧ (endEntry i c g s).rw = s.rw ∧ (endEntry i c g s).dp =
    s.dp ∧ (endEntry i c g s).fq = s.fq ∧ (endEntry i c g s).up = s.up ∧ (endEntry i c g s).mp = s.mp ∧ (endEntry i c g
    s).out = s.out ∧ (endEntry i c g s).pending = s.pending := by
  simp only [endEntry]
  (repeat' split) <;> simp

@[simp] theorem completeCopy_frame (c : CopyOp) (s : State) :
    (completeCopy c s).pins = s.pins ∧ (completeCopy c s).timestamp = s.timestamp ∧ (completeCopy c s).wu = s.wu ∧
    (completeCopy c s).ec = s.ec ∧ (completeCopy c s).fq = s.fq ∧ (completeCopy c s).mp = s.mp ∧ (completeCopy c s).out =
    s.out ∧ (completeCopy c s).pending = s.pending := by
  simp only [completeCopy]
  (repeat' split) <;> simp

@[simp] theorem finishCopy_frame (q : Seq) (s : State) :
    (finishCopy s q).pins = s.pins ∧ (finishCopy s q).timestamp = s.timestamp ∧ (finishCopy s q).wu = s.wu ∧ (finishCopy s
    q).ec = s.ec ∧ (finishCopy s q).fq = s.fq ∧ (finishCopy s q).mp = s.mp ∧ (finishCopy s q).out = s.out ∧ (finishCopy s
    q).pending = s.pending := by
  simp only [finishCopy]
  (repeat' split) <;> simp

@[simp] theorem finishCopies_frame (s : State) :
    (finishCopies s).pins = s.pins ∧ (finishCopies s).timestamp = s.timestamp ∧ (finishCopies s).wu = s.wu ∧ (finishCopies
    s).ec = s.ec ∧ (finishCopies s).fq = s.fq ∧ (finishCopies s).mp = s.mp ∧ (finishCopies s).out = s.out ∧ (finishCopies
    s).pending = s.pending := by
  simp only [finishCopies]
  refine ⟨?_, ?_, ?_, ?_, ?_, ?_, ?_, ?_⟩
  · exact foldl_frame (·.pins) (by intros; simp) _ _
  · exact foldl_frame (·.timestamp) (by intros; simp) _ _
  · exact foldl_frame (·.wu) (by intros; simp) _ _
  · exact foldl_frame (·.ec) (by intros; simp) _ _
  · exact foldl_frame (·.fq) (by intros; simp) _ _
  · exact foldl_frame (·.mp) (by intros; simp) _ _
  · exact foldl_frame (·.out) (by intros; simp) _ _
  · exact foldl_frame (·.pending) (by intros; simp) _ _

@[simp] theorem abandonCopies_frame (s : State) :
    (abandonCopies s).pins = s.pins ∧ (abandonCopies s).timestamp = s.timestamp ∧ (abandonCopies s).wu = s.wu ∧
    (abandonCopies s).ju = s.ju ∧ (abandonCopies s).ec = s.ec ∧ (abandonCopies s).rw = s.rw ∧ (abandonCopies s).fq = s.fq
    ∧ (abandonCopies s).au = s.au ∧ (abandonCopies s).tm = s.tm ∧ (abandonCopies s).up = s.up ∧ (abandonCopies s).mp =
    s.mp ∧ (abandonCopies s).out = s.out ∧ (abandonCopies s).pending = s.pending := by
  simp only [abandonCopies]; simp

@[simp] theorem giveUpCopying_frame (i : BankId) (s : State) :
    (giveUpCopying i s).pins = s.pins ∧ (giveUpCopying i s).timestamp = s.timestamp ∧ (giveUpCopying i s).wu = s.wu ∧
    (giveUpCopying i s).ec = s.ec ∧ (giveUpCopying i s).fq = s.fq ∧ (giveUpCopying i s).mp = s.mp ∧ (giveUpCopying i
    s).out = s.out ∧ (giveUpCopying i s).pending = s.pending := by
  simp only [giveUpCopying]; simp

@[simp] theorem setReason_frame (i : BankId) (r : DamageReason) (s : State) :
    (setReason i r s).pins = s.pins ∧ (setReason i r s).timestamp = s.timestamp ∧ (setReason i r s).wu = s.wu ∧ (setReason
    i r s).ec = s.ec ∧ (setReason i r s).ce = s.ce ∧ (setReason i r s).rw = s.rw ∧ (setReason i r s).dp = s.dp ∧
    (setReason i r s).fq = s.fq ∧ (setReason i r s).tm = s.tm ∧ (setReason i r s).up = s.up ∧ (setReason i r s).mp = s.mp
    ∧ (setReason i r s).out = s.out ∧ (setReason i r s).pending = s.pending := by
  simp only [setReason]
  (repeat' split) <;> simp

@[simp] theorem damageBank_frame (i : BankId) (r : DamageReason) (s : State) :
    (damageBank i r s).pins = s.pins ∧ (damageBank i r s).timestamp = s.timestamp ∧ (damageBank i r s).wu = s.wu ∧
    (damageBank i r s).ec = s.ec ∧ (damageBank i r s).fq = s.fq ∧ (damageBank i r s).mp = s.mp ∧ (damageBank i r s).out =
    s.out ∧ (damageBank i r s).pending = s.pending := by
  simp only [damageBank]
  (repeat' split) <;> simp

@[simp] theorem failWork_frame (r : DamageReason) (m g : Option Nat) (s : State) :
    (failWork r m g s).pins = s.pins ∧ (failWork r m g s).timestamp = s.timestamp ∧ (failWork r m g s).wu = s.wu ∧
    (failWork r m g s).ec = s.ec ∧ (failWork r m g s).mp = s.mp ∧ (failWork r m g s).out = s.out ∧ (failWork r m g
    s).pending = s.pending := by
  simp only [failWork]
  (repeat' split) <;> simp

@[simp] theorem copyReadOkay_frame (q : Seq) (k : Nat) (d : List Byte) (s : State) :
    (copyReadOkay q k d s).pins = s.pins ∧ (copyReadOkay q k d s).timestamp = s.timestamp ∧ (copyReadOkay q k d s).wu =
    s.wu ∧ (copyReadOkay q k d s).ec = s.ec ∧ (copyReadOkay q k d s).fq = s.fq ∧ (copyReadOkay q k d s).mp = s.mp ∧
    (copyReadOkay q k d s).out = s.out ∧ (copyReadOkay q k d s).pending = s.pending := by
  simp only [copyReadOkay]; simp

@[simp] theorem copyReadFailed_frame (q : Seq) (k : Nat) (r : DamageReason) (a : Nat) (s : State) :
    (copyReadFailed q k r a s).pins = s.pins ∧ (copyReadFailed q k r a s).timestamp = s.timestamp ∧ (copyReadFailed q k r
    a s).wu = s.wu ∧ (copyReadFailed q k r a s).ec = s.ec ∧ (copyReadFailed q k r a s).mp = s.mp ∧ (copyReadFailed q k r a
    s).out = s.out ∧ (copyReadFailed q k r a s).pending = s.pending := by
  simp only [copyReadFailed]; simp

@[simp] theorem recordFailed_frame (q : Seq) (a : Nat) (s : State) :
    (recordFailed q a s).pins = s.pins ∧ (recordFailed q a s).timestamp = s.timestamp ∧ (recordFailed q a s).wu = s.wu ∧
    (recordFailed q a s).ec = s.ec ∧ (recordFailed q a s).mp = s.mp ∧ (recordFailed q a s).out = s.out ∧ (recordFailed q a
    s).pending = s.pending := by
  simp only [recordFailed]; simp

@[simp] theorem tagWrite_frame (n : Nat) (s : State) :
    (tagWrite n s).pins = s.pins ∧ (tagWrite n s).timestamp = s.timestamp ∧ (tagWrite n s).wu = s.wu ∧ (tagWrite n s).ec =
    s.ec ∧ (tagWrite n s).ce = s.ce ∧ (tagWrite n s).rw = s.rw ∧ (tagWrite n s).dp = s.dp ∧ (tagWrite n s).fq = s.fq ∧
    (tagWrite n s).au = s.au ∧ (tagWrite n s).tm = s.tm ∧ (tagWrite n s).mp = s.mp ∧ (tagWrite n s).out = s.out ∧
    (tagWrite n s).pending = s.pending := by
  simp only [tagWrite]
  (repeat' split) <;> simp

@[simp] theorem markGranule_frame (i : BankId) (g w : Nat) (d : Option Nat) (s : State) :
    (markGranule i g w d s).pins = s.pins ∧ (markGranule i g w d s).timestamp = s.timestamp ∧ (markGranule i g w d s).wu =
    s.wu ∧ (markGranule i g w d s).ec = s.ec ∧ (markGranule i g w d s).ce = s.ce ∧ (markGranule i g w d s).rw = s.rw ∧
    (markGranule i g w d s).dp = s.dp ∧ (markGranule i g w d s).fq = s.fq ∧ (markGranule i g w d s).up = s.up ∧
    (markGranule i g w d s).mp = s.mp ∧ (markGranule i g w d s).out = s.out ∧ (markGranule i g w d s).pending = s.pending := by
  simp only [markGranule]
  (repeat' split) <;> simp

@[simp] theorem markWrite_frame (r : LookupResult) (g : Nat) (s : State) :
    (markWrite r g s).pins = s.pins ∧ (markWrite r g s).timestamp = s.timestamp ∧ (markWrite r g s).wu = s.wu ∧ (markWrite
    r g s).ec = s.ec ∧ (markWrite r g s).ce = s.ce ∧ (markWrite r g s).rw = s.rw ∧ (markWrite r g s).dp = s.dp ∧
    (markWrite r g s).fq = s.fq ∧ (markWrite r g s).up = s.up ∧ (markWrite r g s).mp = s.mp ∧ (markWrite r g s).out =
    s.out ∧ (markWrite r g s).pending = s.pending := by
  simp only [markWrite]
  (repeat' split) <;> simp

@[simp] theorem joinQueue_frame (h : HoldEntry) (r : LookupResult) (s : State) :
    (joinQueue h r s).pins = s.pins ∧ (joinQueue h r s).timestamp = s.timestamp ∧ (joinQueue h r s).wu = s.wu ∧ (joinQueue
    h r s).ju = s.ju ∧ (joinQueue h r s).ec = s.ec ∧ (joinQueue h r s).rw = s.rw ∧ (joinQueue h r s).dp = s.dp ∧
    (joinQueue h r s).fq = s.fq ∧ (joinQueue h r s).mp = s.mp ∧ (joinQueue h r s).out = s.out ∧ (joinQueue h r s).pending
    = s.pending := by
  simp only [joinQueue]; simp

@[simp] theorem promoteCopy_frame (g e : Nat) (s : State) :
    (promoteCopy g e s).pins = s.pins ∧ (promoteCopy g e s).timestamp = s.timestamp ∧ (promoteCopy g e s).wu = s.wu ∧
    (promoteCopy g e s).ju = s.ju ∧ (promoteCopy g e s).ec = s.ec ∧ (promoteCopy g e s).rw = s.rw ∧ (promoteCopy g e s).fq
    = s.fq ∧ (promoteCopy g e s).au = s.au ∧ (promoteCopy g e s).tm = s.tm ∧ (promoteCopy g e s).up = s.up ∧ (promoteCopy
    g e s).mp = s.mp ∧ (promoteCopy g e s).out = s.out ∧ (promoteCopy g e s).pending = s.pending := by
  simp only [promoteCopy]
  (repeat' split) <;> simp

@[simp] theorem holdOwn_frame (n : Nat) (str : WriteStream) (i : BankId) (d : DirtyEntry) (r : LookupResult) (s : State) :
    (holdOwn n str i d r s).pins = s.pins ∧ (holdOwn n str i d r s).timestamp = s.timestamp ∧ (holdOwn n str i d r s).wu =
    s.wu ∧ (holdOwn n str i d r s).ec = s.ec ∧ (holdOwn n str i d r s).rw = s.rw ∧ (holdOwn n str i d r s).fq = s.fq ∧
    (holdOwn n str i d r s).mp = s.mp ∧ (holdOwn n str i d r s).out = s.out ∧ (holdOwn n str i d r s).pending = s.pending := by
  simp only [holdOwn]
  (repeat' split) <;> simp

@[simp] theorem holdCheck_frame (n g : Nat) (str : WriteStream) (r : LookupResult) (s : State) :
    (holdCheck n g str r s).pins = s.pins ∧ (holdCheck n g str r s).timestamp = s.timestamp ∧ (holdCheck n g str r s).wu =
    s.wu ∧ (holdCheck n g str r s).ec = s.ec ∧ (holdCheck n g str r s).rw = s.rw ∧ (holdCheck n g str r s).fq = s.fq ∧
    (holdCheck n g str r s).mp = s.mp ∧ (holdCheck n g str r s).out = s.out ∧ (holdCheck n g str r s).pending = s.pending := by
  simp only [holdCheck]
  (repeat' split) <;> simp

@[simp] theorem refuseEntry_frame (n : Nat) (d : Direction) (t : Txn) (k : FaultKind) (r : LookupResult) (s : State) :
    (refuseEntry n d t k r s).pins = s.pins ∧ (refuseEntry n d t k r s).timestamp = s.timestamp ∧ (refuseEntry n d t k r
    s).wu = s.wu ∧ (refuseEntry n d t k r s).ju = s.ju ∧ (refuseEntry n d t k r s).ec = s.ec ∧ (refuseEntry n d t k r
    s).ce = s.ce ∧ (refuseEntry n d t k r s).rw = s.rw ∧ (refuseEntry n d t k r s).dp = s.dp ∧ (refuseEntry n d t k r
    s).mp = s.mp ∧ (refuseEntry n d t k r s).pending = s.pending := by
  simp only [refuseEntry]; simp

@[simp] theorem passWrite_frame (n : Nat) (t : Txn) (r : LookupResult) (s : State) :
    (passWrite n t r s).pins = s.pins ∧ (passWrite n t r s).timestamp = s.timestamp ∧ (passWrite n t r s).wu = s.wu ∧
    (passWrite n t r s).rw = s.rw ∧ (passWrite n t r s).fq = s.fq ∧ (passWrite n t r s).mp = s.mp ∧ (passWrite n t r
    s).out = s.out ∧ (passWrite n t r s).pending = s.pending := by
  simp only [passWrite]
  (repeat' split) <;> simp

@[simp] theorem acceptInto_frame (n : Nat) (d : Direction) (t : Txn) (bs : List Byte) (st : List Bool) (s : State) :
    (acceptInto n d t bs st s).pins = s.pins ∧ (acceptInto n d t bs st s).timestamp = s.timestamp ∧ (acceptInto n d t bs
    st s).wu = s.wu ∧ (acceptInto n d t bs st s).rw = s.rw ∧ (acceptInto n d t bs st s).mp = s.mp ∧ (acceptInto n d t bs
    st s).pending = s.pending := by
  simp only [acceptInto]
  (repeat' split) <;> simp

@[simp] theorem acceptRead_frame (t : Txn) (s : State) :
    (acceptRead t s).pins = s.pins ∧ (acceptRead t s).timestamp = s.timestamp ∧ (acceptRead t s).wu = s.wu ∧ (acceptRead t
    s).rw = s.rw ∧ (acceptRead t s).mp = s.mp ∧ (acceptRead t s).pending = s.pending := by
  simp only [acceptRead]
  (repeat' split) <;> simp

@[simp] theorem acceptStaged_frame (s : State) :
    (acceptStaged s).pins = s.pins ∧ (acceptStaged s).timestamp = s.timestamp ∧ (acceptStaged s).wu = s.wu ∧ (acceptStaged
    s).rw = s.rw ∧ (acceptStaged s).mp = s.mp ∧ (acceptStaged s).pending = s.pending := by
  simp only [acceptStaged]
  (repeat' split) <;> simp

@[simp] theorem stageWrite_frame (w : WriteTxn) (s : State) :
    (stageWrite w s).pins = s.pins ∧ (stageWrite w s).timestamp = s.timestamp ∧ (stageWrite w s).wu = s.wu ∧ (stageWrite w
    s).ju = s.ju ∧ (stageWrite w s).ec = s.ec ∧ (stageWrite w s).ce = s.ce ∧ (stageWrite w s).rw = s.rw ∧ (stageWrite w
    s).dp = s.dp ∧ (stageWrite w s).fq = s.fq ∧ (stageWrite w s).au = s.au ∧ (stageWrite w s).tm = s.tm ∧ (stageWrite w
    s).mp = s.mp ∧ (stageWrite w s).out = s.out ∧ (stageWrite w s).pending = s.pending := by
  simp only [stageWrite]
  (repeat' split) <;> simp

@[simp] theorem grantNext_frame (s : State) :
    (grantNext s).pins = s.pins ∧ (grantNext s).timestamp = s.timestamp ∧ (grantNext s).wu = s.wu ∧ (grantNext s).ju =
    s.ju ∧ (grantNext s).ec = s.ec ∧ (grantNext s).ce = s.ce ∧ (grantNext s).rw = s.rw ∧ (grantNext s).fq = s.fq ∧
    (grantNext s).au = s.au ∧ (grantNext s).tm = s.tm ∧ (grantNext s).up = s.up ∧ (grantNext s).mp = s.mp ∧ (grantNext
    s).pending = s.pending := by
  simp only [grantNext]
  (repeat' split) <;> simp

@[simp] theorem completePass_frame (n : Nat) (o : UpOutcome) (bs : List Byte) (x : Option Bool) (s : State) :
    (completePass n o bs x s).pins = s.pins ∧ (completePass n o bs x s).timestamp = s.timestamp ∧ (completePass n o bs x
    s).wu = s.wu ∧ (completePass n o bs x s).fq = s.fq ∧ (completePass n o bs x s).mp = s.mp ∧ (completePass n o bs x
    s).pending = s.pending := by
  simp only [completePass]
  (repeat' split) <;> simp

@[simp] theorem passFault_frame (t : Tag) (n : Nat) (k : FaultKind) (s : State) :
    (passFault t n k s).pins = s.pins ∧ (passFault t n k s).timestamp = s.timestamp ∧ (passFault t n k s).wu = s.wu ∧
    (passFault t n k s).ju = s.ju ∧ (passFault t n k s).ec = s.ec ∧ (passFault t n k s).ce = s.ce ∧ (passFault t n k s).rw
    = s.rw ∧ (passFault t n k s).dp = s.dp ∧ (passFault t n k s).tm = s.tm ∧ (passFault t n k s).up = s.up ∧ (passFault t
    n k s).mp = s.mp ∧ (passFault t n k s).out = s.out ∧ (passFault t n k s).pending = s.pending := by
  simp only [passFault]; simp

@[simp] theorem requestOkay_frame (t : Tag) (r : Response) (s : State) :
    (requestOkay t r s).pins = s.pins ∧ (requestOkay t r s).timestamp = s.timestamp ∧ (requestOkay t r s).wu = s.wu ∧
    (requestOkay t r s).fq = s.fq ∧ (requestOkay t r s).mp = s.mp ∧ (requestOkay t r s).pending = s.pending := by
  simp only [requestOkay]
  (repeat' split) <;> simp

@[simp] theorem requestFailed_frame (t : Tag) (k : FaultKind) (r : DamageReason) (s : State) :
    (requestFailed t k r s).pins = s.pins ∧ (requestFailed t k r s).timestamp = s.timestamp ∧ (requestFailed t k r s).wu =
    s.wu ∧ (requestFailed t k r s).mp = s.mp ∧ (requestFailed t k r s).pending = s.pending := by
  simp only [requestFailed]
  (repeat' split) <;> simp

@[simp] theorem lateOnTag_frame (t : Tag) (s : State) :
    (lateOnTag t s).pins = s.pins ∧ (lateOnTag t s).timestamp = s.timestamp ∧ (lateOnTag t s).wu = s.wu ∧ (lateOnTag t
    s).ju = s.ju ∧ (lateOnTag t s).ec = s.ec ∧ (lateOnTag t s).ce = s.ce ∧ (lateOnTag t s).rw = s.rw ∧ (lateOnTag t s).tm
    = s.tm ∧ (lateOnTag t s).up = s.up ∧ (lateOnTag t s).mp = s.mp ∧ (lateOnTag t s).out = s.out ∧ (lateOnTag t s).pending
    = s.pending := by
  simp only [lateOnTag]; simp

@[simp] theorem takeResponse_frame (d : DsResult) (r : Response) (s : State) :
    (takeResponse d r s).pins = s.pins ∧ (takeResponse d r s).timestamp = s.timestamp ∧ (takeResponse d r s).wu = s.wu ∧
    (takeResponse d r s).mp = s.mp ∧ (takeResponse d r s).pending = s.pending := by
  simp only [takeResponse]
  (repeat' split) <;> simp

@[simp] theorem expireResponse_frame (n : Nat) (s : State) :
    (expireResponse n s).pins = s.pins ∧ (expireResponse n s).timestamp = s.timestamp ∧ (expireResponse n s).wu = s.wu ∧
    (expireResponse n s).mp = s.mp ∧ (expireResponse n s).pending = s.pending := by
  simp only [expireResponse]
  (repeat' split) <;> simp

@[simp] theorem expireHold_frame (n : Nat) (s : State) :
    (expireHold n s).pins = s.pins ∧ (expireHold n s).timestamp = s.timestamp ∧ (expireHold n s).wu = s.wu ∧ (expireHold n
    s).ec = s.ec ∧ (expireHold n s).mp = s.mp ∧ (expireHold n s).out = s.out ∧ (expireHold n s).pending = s.pending := by
  simp only [expireHold]
  (repeat' split) <;> simp

@[simp] theorem tickReports_frame (s : State) :
    (tickReports s).pins = s.pins ∧ (tickReports s).timestamp = s.timestamp ∧ (tickReports s).wu = s.wu ∧ (tickReports
    s).ju = s.ju ∧ (tickReports s).ec = s.ec ∧ (tickReports s).ce = s.ce ∧ (tickReports s).rw = s.rw ∧ (tickReports s).dp
    = s.dp ∧ (tickReports s).fq = s.fq ∧ (tickReports s).up = s.up ∧ (tickReports s).mp = s.mp ∧ (tickReports s).out =
    s.out ∧ (tickReports s).pending = s.pending := by
  simp only [tickReports]
  (repeat' split) <;> simp

@[simp] theorem tick_frame (s : State) :
    (tick s).pins = s.pins ∧ (tick s).wu = s.wu ∧ (tick s).ju = s.ju ∧ (tick s).ec = s.ec ∧ (tick s).rw = s.rw ∧ (tick
    s).fq = s.fq ∧ (tick s).up = s.up ∧ (tick s).mp = s.mp ∧ (tick s).out = s.out ∧ (tick s).pending = s.pending := by
  simp only [tick]; simp

@[simp] theorem deliverAnswer_frame (c : Instr) (a : Answer) (s : State) :
    (deliverAnswer c a s).pins = s.pins ∧ (deliverAnswer c a s).timestamp = s.timestamp ∧ (deliverAnswer c a s).wu = s.wu
    ∧ (deliverAnswer c a s).ju = s.ju ∧ (deliverAnswer c a s).ec = s.ec ∧ (deliverAnswer c a s).ce = s.ce ∧ (deliverAnswer
    c a s).rw = s.rw ∧ (deliverAnswer c a s).dp = s.dp ∧ (deliverAnswer c a s).fq = s.fq ∧ (deliverAnswer c a s).au = s.au
    ∧ (deliverAnswer c a s).tm = s.tm ∧ (deliverAnswer c a s).up = s.up ∧ (deliverAnswer c a s).out = s.out ∧
    (deliverAnswer c a s).pending = s.pending := by
  simp only [deliverAnswer]
  (repeat' split) <;> simp

@[simp] theorem refuseFrame_frame (s : State) :
    (refuseFrame s).pins = s.pins ∧ (refuseFrame s).timestamp = s.timestamp ∧ (refuseFrame s).wu = s.wu ∧ (refuseFrame
    s).ju = s.ju ∧ (refuseFrame s).ec = s.ec ∧ (refuseFrame s).ce = s.ce ∧ (refuseFrame s).rw = s.rw ∧ (refuseFrame s).dp
    = s.dp ∧ (refuseFrame s).fq = s.fq ∧ (refuseFrame s).au = s.au ∧ (refuseFrame s).tm = s.tm ∧ (refuseFrame s).up = s.up
    ∧ (refuseFrame s).out = s.out ∧ (refuseFrame s).pending = s.pending := by
  simp only [refuseFrame]
  (repeat' split) <;> simp

@[simp] theorem discardHolds_frame (s : State) :
    (discardHolds s).pins = s.pins ∧ (discardHolds s).timestamp = s.timestamp ∧ (discardHolds s).wu = s.wu ∧ (discardHolds
    s).ec = s.ec ∧ (discardHolds s).rw = s.rw ∧ (discardHolds s).dp = s.dp ∧ (discardHolds s).fq = s.fq ∧ (discardHolds
    s).au = s.au ∧ (discardHolds s).tm = s.tm ∧ (discardHolds s).up = s.up ∧ (discardHolds s).mp = s.mp ∧ (discardHolds
    s).out = s.out ∧ (discardHolds s).pending = s.pending := by
  simp only [discardHolds]
  refine ⟨?_, ?_, ?_, ?_, ?_, ?_, ?_, ?_, ?_, ?_, ?_, ?_, ?_⟩
  · exact (foldl_frame (·.pins) (by intros; simp) _ _).trans (by simp)
  · exact (foldl_frame (·.timestamp) (by intros; simp) _ _).trans (by simp)
  · exact (foldl_frame (·.wu) (by intros; simp) _ _).trans (by simp)
  · exact (foldl_frame (·.ec) (by intros; simp) _ _).trans (by simp)
  · exact (foldl_frame (·.rw) (by intros; simp) _ _).trans (by simp)
  · exact (foldl_frame (·.dp) (by intros; simp) _ _).trans (by simp)
  · exact (foldl_frame (·.fq) (by intros; simp) _ _).trans (by simp)
  · exact (foldl_frame (·.au) (by intros; simp) _ _).trans (by simp)
  · exact (foldl_frame (·.tm) (by intros; simp) _ _).trans (by simp)
  · exact (foldl_frame (·.up) (by intros; simp) _ _).trans (by simp)
  · exact (foldl_frame (·.mp) (by intros; simp) _ _).trans (by simp)
  · exact (foldl_frame (·.out) (by intros; simp) _ _).trans (by simp)
  · exact (foldl_frame (·.pending) (by intros; simp) _ _).trans (by simp)

@[simp] theorem flagOpenBank_frame (s : State) :
    (flagOpenBank s).pins = s.pins ∧ (flagOpenBank s).timestamp = s.timestamp ∧ (flagOpenBank s).wu = s.wu ∧ (flagOpenBank
    s).ec = s.ec ∧ (flagOpenBank s).ce = s.ce ∧ (flagOpenBank s).rw = s.rw ∧ (flagOpenBank s).dp = s.dp ∧ (flagOpenBank
    s).fq = s.fq ∧ (flagOpenBank s).au = s.au ∧ (flagOpenBank s).tm = s.tm ∧ (flagOpenBank s).up = s.up ∧ (flagOpenBank
    s).mp = s.mp ∧ (flagOpenBank s).out = s.out ∧ (flagOpenBank s).pending = s.pending := by
  simp only [flagOpenBank]
  (repeat' split) <;> simp

@[simp] theorem portReset_frame (s : State) :
    (portReset s).pins = s.pins ∧ (portReset s).timestamp = s.timestamp ∧ (portReset s).wu = s.wu ∧ (portReset s).fq =
    s.fq ∧ (portReset s).mp = s.mp ∧ (portReset s).out = s.out ∧ (portReset s).pending = s.pending := by
  simp only [portReset]
  refine ⟨?_, ?_, ?_, ?_, ?_, ?_, ?_⟩
  · exact (foldl_frame (·.pins) (by intros; simp) _ _).trans ((foldl_frame (·.pins) (by intros; simp) _ _).trans (by simp))
  · exact (foldl_frame (·.timestamp) (by intros; simp) _ _).trans ((foldl_frame (·.timestamp) (by intros; simp) _ _).trans (by simp))
  · exact (foldl_frame (·.wu) (by intros; simp) _ _).trans ((foldl_frame (·.wu) (by intros; simp) _ _).trans (by simp))
  · exact (foldl_frame (·.fq) (by intros; simp) _ _).trans ((foldl_frame (·.fq) (by intros; simp) _ _).trans (by simp))
  · exact (foldl_frame (·.mp) (by intros; simp) _ _).trans ((foldl_frame (·.mp) (by intros; simp) _ _).trans (by simp))
  · exact (foldl_frame (·.out) (by intros; simp) _ _).trans ((foldl_frame (·.out) (by intros; simp) _ _).trans (by simp))
  · exact (foldl_frame (·.pending) (by intros; simp) _ _).trans ((foldl_frame (·.pending) (by intros; simp) _ _).trans (by simp))

@[simp] theorem powerWarning_frame (s : State) :
    (powerWarning s).pins = s.pins ∧ (powerWarning s).timestamp = s.timestamp ∧ (powerWarning s).wu = s.wu ∧ (powerWarning
    s).fq = s.fq ∧ (powerWarning s).up = s.up ∧ (powerWarning s).mp = s.mp ∧ (powerWarning s).out = s.out ∧ (powerWarning
    s).pending = s.pending := by
  simp only [powerWarning]
  (repeat' split) <;> simp

end Sys2Proof.Machine
end

