-- ==== Sys2Proof/Laws/Lookups.lean ====
section
/-! SUPPORT. What the searches over the bridge's tables give: banks, tracker entries, tags, slots, windows, with the bounds and
the order that the two kinds of free number come in. -/

namespace Sys2Proof.Machine

/-! ## Banks -/

/-- Bank A is preferred. -/
theorem findBank_some {p : Bank → Bool} {s : State} {i : BankId} (h : findBank p s = some i) :
    p (bank s i) = true ∧ (i = .b → p s.ju.bankA = false) := by
  simp only [findBank] at h
  split at h
  · cases h; simp_all [bank]
  · split at h
    · cases h; simp_all [bank]
    · cases h

theorem findBank_none {p : Bank → Bool} {s : State} : findBank p s = none ↔ ∀ i, p (bank s i) = false := by
  constructor
  · intro h i
    simp only [findBank] at h
    split at h
    · cases h
    · split at h
      · cases h
      · cases i <;> simp_all [bank]
  · intro h
    have ha := h .a
    have hb := h .b
    simp only [bank] at ha hb
    simp [findBank, ha, hb]

/-- A property that one bank alone has finds that bank. -/
theorem findBank_of_unique {p : Bank → Bool} {s : State} {i : BankId} (h : p (bank s i) = true)
    (ho : p (bank s i.other) = false) : findBank p s = some i := by
  cases i <;> simp_all [findBank, bank, BankId.other]

theorem findBank_congr (p : Bank → Bool) {s t : State} (h : t.ju = s.ju) : findBank p t = findBank p s := by
  simp [findBank, h]

theorem openBank_some {s : State} {i : BankId} (h : openBank s = some i) : (bank s i).state = .opened := by
  simpa using (findBank_some h).1

theorem cutBank_some {s : State} {i : BankId} (h : cutBank s = some i) : (bank s i).state.isCut = true :=
  (findBank_some h).1

theorem holdBank_some {s : State} {i : BankId} (h : holdBank s = some i) : (bank s i).state.isCopyable = true :=
  (findBank_some h).1

theorem drainingBank_some {s : State} {i : BankId} (h : drainingBank s = some i) : (bank s i).state = .draining := by
  simpa using (findBank_some h).1

theorem bankOfEpoch_some {e : Nat} {s : State} {i : BankId} (h : bankOfEpoch e s = some i) : (bank s i).epoch = some e := by
  simpa using (findBank_some h).1

theorem bankOfEpoch_none {e : Nat} {s : State} (h : bankOfEpoch e s = none) (i : BankId) : (bank s i).epoch ≠ some e := by
  simpa using findBank_none.1 h i

/-- SETTLING and DRAINING are cut states, and neither is OPEN or FREE. -/
theorem BankState.isCut_of_isCopyable {st : BankState} (h : st.isCopyable = true) : st.isCut = true := by
  cases st <;> simp_all [BankState.isCopyable, BankState.isCut]

theorem BankState.isCut_iff {st : BankState} : st.isCut = true ↔ st ≠ .free ∧ st ≠ .opened := by
  cases st <;> simp [BankState.isCut]

theorem BankState.isCopyable_iff {st : BankState} : st.isCopyable = true ↔ st = .settling ∨ st = .draining := by
  cases st <;> simp [BankState.isCopyable]

theorem EntryState.isWaiting_iff {st : EntryState} : st.isWaiting = true ↔ st = .pending ∨ st = .copying := by
  cases st <;> simp [EntryState.isWaiting]

/-- The entry of a granule is in the list and names it. -/
theorem entryOf_some {b : Bank} {g : Nat} {d : DirtyEntry} (h : b.entryOf g = some d) : d ∈ b.dirty ∧ d.granule = g :=
  ⟨List.mem_of_find?_eq_some h, by simpa using List.find?_some h⟩

theorem entryOf_none {b : Bank} {g : Nat} : b.entryOf g = none ↔ ∀ d ∈ b.dirty, d.granule ≠ g := by
  simp [Bank.entryOf]

/-- A list that names no granule twice gives back each of its entries. -/
theorem entryOf_eq_of_mem {b : Bank} {d : DirtyEntry} (hn : (b.dirty.map DirtyEntry.granule).Nodup) (h : d ∈ b.dirty) :
    b.entryOf d.granule = some d := by
  unfold Bank.entryOf
  generalize b.dirty = l at *
  induction l with
  | nil => cases h
  | cons x xs ih =>
    simp only [List.map_cons, List.nodup_cons, List.mem_map, not_exists, not_and] at hn
    rcases List.mem_cons.1 h with rfl | h'
    · simp
    · have : x.granule ≠ d.granule := fun hx => hn.1 d h' hx.symm
      simp [this, ih hn.2 h']

/-! ## Tracker entries, tags, slots -/

theorem findEntry_some {n : Nat} {s : State} {e : TrackerEntry} (h : findEntry n s = some e) :
    e ∈ s.up.tracker ∧ e.number = n :=
  ⟨List.mem_of_find?_eq_some h, by simpa using List.find?_some h⟩

theorem findTag_some {n : Nat} {s : State} {t : Tag} (h : findTag n s = some t) : t ∈ s.dp.tags ∧ t.number = n :=
  ⟨List.mem_of_find?_eq_some h, by simpa using List.find?_some h⟩

theorem findSlot_some {q : Seq} {s : State} {x : Slot} (h : findSlot q s = some x) : x ∈ s.rw.slots ∧ x.seq = q :=
  ⟨List.mem_of_find?_eq_some h, by simpa using List.find?_some h⟩

/-- The entry that an acceptance takes is in range and not outstanding. -/
theorem freeEntry_some {s : State} {n : Nat} (h : freeEntry s = some n) : n < 48 ∧ ∀ e ∈ s.up.tracker, e.number ≠ n := by
  have h1 := List.mem_of_find?_eq_some h
  have h2 := List.find?_some h
  simp only [Config.trackerEntries, List.mem_range] at h1
  simp only [List.all_eq_true, decide_eq_true_eq] at h2
  exact ⟨h1, h2⟩

/-- The tag that a grant takes is in range and not in use. -/
theorem freeTag_some {dp : DownstreamPort} {n : Nat} (h : freeTag dp = some n) : n < 256 ∧ ∀ t ∈ dp.tags, t.number ≠ n := by
  have h1 := List.mem_of_find?_eq_some h
  have h2 := List.find?_some h
  simp only [Config.tags, List.mem_range] at h1
  simp only [List.all_eq_true, decide_eq_true_eq] at h2
  exact ⟨h1, h2⟩

/-- The lowest-numbered one. -/
theorem freeTag_eq {dp : DownstreamPort} {n : Nat} (hn : n < 256) (h : ∀ t ∈ dp.tags, t.number ≠ n)
    (hl : ∀ m, m < n → ∃ t ∈ dp.tags, t.number = m) : freeTag dp = some n := by
  unfold freeTag
  rw [List.find?_range_eq_some]
  refine ⟨by simpa using h, by simpa [Config.tags] using hn, ?_⟩
  intro m hm
  simpa using hl m hm

/-- A window number that lookup gives is one of the 64. -/
theorem findWindow_some {wu : WindowUnit} {d h n : Nat} (hf : findWindow wu d h = some n) :
    n < 64 ∧ ∃ w, windowAt wu n = some w ∧ w.domain = d ∧ w.contains h = true := by
  unfold findWindow at hf
  obtain ⟨hn, hp, -⟩ := List.findIdx?_eq_some_iff_getElem.1 hf
  have hn' : n < 64 := by simpa using hn
  refine ⟨hn', ?_⟩
  simp only [Vector.getElem_toList] at hp
  cases hw : wu.windows[n] with
  | none => simp [hw] at hp
  | some w =>
    simp only [hw, Bool.and_eq_true, decide_eq_true_eq] at hp
    exact ⟨w, by simp [windowAt, Vector.getElem?_eq_getElem hn', hw], hp.1, hp.2⟩

/-- Two ranges meet by the test of R17. -/
theorem intersects_iff {a b c d : Nat} : intersects a b c d = true ↔ a < d ∧ c < b := by
  simp [intersects]

end Sys2Proof.Machine
end

