-- ==== Sys2Proof/Laws/Checks.lean ====
section
/-! SUPPORT. A test that can be computed for each invariant of Sys2Proof/Safety.lean, and that a state which passes it has
the invariant. The witnesses in Sys2Proof/Tests/Slice0.lean show an invariant of a concrete state by these. -/

namespace Sys2Proof.Safety

open Sys2Proof.Machine

/-! ## The journal -/

/-- The test for `BankShape`. -/
def shapeCheck (b : Bank) : Bool :=
  (decide (b.state ≠ .free) || decide (b = freeBank)) &&
    (decide (b.state = .free) || b.epoch.any fun e => decide (1 ≤ e) && decide (e ≤ 4294967295))

theorem bankShape_of_check {b : Bank} (h : shapeCheck b = true) : BankShape b := by
  simp only [shapeCheck, Bool.and_eq_true, Bool.or_eq_true, decide_eq_true_eq, Option.any_eq_true] at h
  exact ⟨fun hf => h.1.resolve_left (fun hn => hn hf), fun hn => h.2.resolve_left hn⟩

/-- The test for `JournalInv`. -/
def journalCheck (s : State) : Bool :=
  shapeCheck s.ju.bankA && shapeCheck s.ju.bankB &&
    decide (¬ (s.ju.bankA.state = .opened ∧ s.ju.bankB.state = .opened)) &&
    decide (¬ (s.ju.bankA.state.isCut = true ∧ s.ju.bankB.state.isCut = true)) &&
    decide (s.ec.journal = .recording ↔ (s.ju.bankA.state = .opened ∨ s.ju.bankB.state = .opened)) &&
    (s.ju.bankA.epoch.isNone || decide (s.ju.bankA.epoch ≠ s.ju.bankB.epoch)) &&
    decide (s.ec.powerCutPending = true →
      s.ec.journal = .recording ∧ (s.ju.bankA.state.isCut = true ∨ s.ju.bankB.state.isCut = true)) &&
    decide (s.wu.mode = .transparent → s.ec.journal = .off ∧ s.ju.bankA.state = .free ∧ s.ju.bankB.state = .free)

theorem journalInv_of_check {s : State} (h : journalCheck s = true) : JournalInv s := by
  simp only [journalCheck, Bool.and_eq_true, decide_eq_true_eq] at h
  obtain ⟨⟨⟨⟨⟨⟨⟨ha, hb⟩, ho⟩, hc⟩, hr⟩, he⟩, hp⟩, ht⟩ := h
  refine ⟨bankShape_of_check ha, bankShape_of_check hb, ho, hc, hr, ?_, hp, ht⟩
  intro e hA hB
  simp [hA, hB] at he

/-! ## The Hold Queue -/

/-- The test for `HoldInv`. -/
def holdQueueCheck (s : State) : Bool :=
  ((holdBank s).isSome || s.ce.holdQueue.isEmpty) &&
    (s.ce.holdQueue.all fun h => h.waitsOn.all fun x => (holdBank s).any fun i =>
      decide ((bank s i).epoch = some x.2) && ((bank s i).entryOf x.1).isSome) &&
    decide ((scanHolds (granuleResolved s) [] s.ce.holdQueue).2 = [])

theorem holdInv_of_check {s : State} (h : holdQueueCheck s = true) : HoldInv s := by
  simp only [holdQueueCheck, Bool.and_eq_true, Bool.or_eq_true, List.isEmpty_iff, List.all_eq_true, Option.all_eq_true,
    Option.any_eq_true, decide_eq_true_eq] at h
  obtain ⟨⟨he, ho⟩, hn⟩ := h
  refine ⟨fun hb => he.resolve_left (by simp [hb]), fun x hx g e hw => ?_, hn⟩
  obtain ⟨i, hi, hi2⟩ := ho x hx (g, e) hw
  exact ⟨i, hi, hi2⟩

/-! ## The lists of a bank -/

/-- The test for `ListsInv`. -/
def listsCheck (b : Bank) : Bool :=
  decide (b.dirty.map DirtyEntry.granule).Nodup && decide (b.dirty.length ≤ 4096) && decide (b.listed = b.dirty.length) &&
    (decide (b.spill = []) || decide (b.dirty.length = 4096)) && decide (b.spill.map SpillEntry.window).Nodup &&
    decide (b.spill.length ≤ 64) && b.spill.all fun e => decide (e.window ≤ 63) && decide (e.low ≤ e.high)

theorem listsInv_of_check {b : Bank} (h : listsCheck b = true) : ListsInv b := by
  simp only [listsCheck, Bool.and_eq_true, Bool.or_eq_true, decide_eq_true_eq, List.all_eq_true] at h
  obtain ⟨⟨⟨⟨⟨⟨h1, h2⟩, h3⟩, h4⟩, h5⟩, h6⟩, h7⟩ := h
  exact ⟨h1, h2, h3, fun hn => h4.resolve_left hn, h5, h6, h7⟩

theorem dirtyInv_of_check {s : State} (h : (listsCheck s.ju.bankA && listsCheck s.ju.bankB) = true) : DirtyInv s := by
  simp only [Bool.and_eq_true] at h
  exact ⟨listsInv_of_check h.1, listsInv_of_check h.2⟩

/-! ## The tables of WU -/

theorem windowAt_lt {wu : WindowUnit} {n : Nat} {w : Window} (h : windowAt wu n = some w) : n < 64 := by
  by_contra hn
  simp [windowAt, Vector.getElem?_eq_none (Nat.le_of_not_lt hn)] at h

theorem domainOf_lt {wu : WindowUnit} {i d : Nat} (h : domainOf wu i = some d) : i < 64 := by
  by_contra hn
  simp [domainOf, Vector.getElem?_eq_none (Nat.le_of_not_lt hn)] at h

/-- The check of R16 is `Fits`. -/
theorem rangeFits_iff {limit : Nat} {w : Window} : rangeFits limit w = true ↔ Fits limit w := by
  unfold rangeFits Fits
  cases w.growth <;> simp only [Bool.and_eq_true, decide_eq_true_eq, and_assoc] <;> rfl

/-- The check of R17 is `Overlaps`. -/
theorem overlapsOther_iff {wu : WindowUnit} {n : Nat} {w : Window} : overlapsOther wu n w = true ↔ Overlaps wu n w := by
  unfold overlapsOther Overlaps Meet
  simp only [List.any_eq_true, List.mem_range, Bool.and_eq_true, decide_eq_true_eq]
  constructor
  · rintro ⟨m, -, hne, hv⟩
    cases hw : windowAt wu m with
    | none => simp [hw] at hv
    | some v =>
      simp only [hw, Bool.and_eq_true, decide_eq_true_eq, intersects_iff] at hv
      exact ⟨m, v, hne, rfl.trans hw.symm ▸ hw, hv.1, hv.2⟩
  · rintro ⟨m, v, hne, hv, hd, hx⟩
    exact ⟨m, windowAt_lt hv, hne, by simp [hv, hd, intersects_iff, hx]⟩

/-- The check of R18 is `RingConflict`. -/
theorem ringConflict_iff {place : Option RingPlace} {w : Window} : ringConflict place w = true ↔ RingConflict place w := by
  unfold ringConflict RingConflict Meet
  cases place with
  | none => simp
  | some p => simp [conflictsWithPlace, intersects_iff, RingPlace.regionEnd, Config.slotBytes]

/-- The test for `WindowInv`. -/
def windowCheck (s : State) : Bool :=
  decide (1 ≤ s.wu.memoryLimit ∧ s.wu.memoryLimit ≤ 2 ^ 28) &&
    ((List.range 64).all fun i => (domainOf s.wu i).all fun d => decide (d ≤ 15)) &&
    ((List.range 64).all fun n => (windowAt s.wu n).all fun w =>
      decide (w.domain ≤ 15 ∧ 1 ≤ w.extent ∧ w.extent ≤ 65536 ∧ w.anchor % 4096 = 0 ∧ w.anchor ≤ 2 ^ 40 ∧
        w.memBase % 4096 = 0 ∧ w.memBase ≤ 2 ^ 40) &&
      rangeFits s.wu.memoryLimit w && !overlapsOther s.wu n w && !Machine.ringConflict s.rw.place w) &&
    s.rw.place.all fun p => decide (p.base % 64 = 0 ∧ 2 ≤ p.capacity ∧ p.capacity ≤ 65535 ∧
      p.base + p.capacity * 4160 ≤ s.wu.memoryLimit * 4096)

theorem windowInv_of_check {s : State} (h : windowCheck s = true) : WindowInv s := by
  simp only [windowCheck, Bool.and_eq_true, decide_eq_true_eq, List.all_eq_true, List.mem_range, Option.all_eq_true,
    Bool.not_eq_true'] at h
  obtain ⟨⟨⟨hl, hd⟩, hw⟩, hp⟩ := h
  have hw' : ∀ n w, windowAt s.wu n = some w → _ := fun n w he => hw n (windowAt_lt he) w he
  refine ⟨hl, fun i d he => hd i (domainOf_lt he) d he, fun n w he => (hw' n w he).1.1.1,
    fun n w he => rangeFits_iff.1 (hw' n w he).1.1.2, fun n w he ho => ?_, fun n w he ho => ?_, hp⟩
  · exact absurd (overlapsOther_iff.2 ho) (by simp [(hw' n w he).1.2])
  · exact absurd (ringConflict_iff.2 ho) (by simp [(hw' n w he).2])

/-! ## The ring -/

/-- The test for `SlotsFrom`. -/
def slotsCheck (capacity position : Nat) : Seq → List Slot → Bool
  | _, [] => true
  | q, x :: xs =>
    decide (x.seq = q) && decide (x.position < capacity) && decide ((x.position + xs.length + 1) % capacity = position) &&
      slotsCheck capacity position (q + 1) xs

theorem slotsFrom_of_check {capacity position : Nat} {xs : List Slot} {q : Seq}
    (h : slotsCheck capacity position q xs = true) : SlotsFrom capacity position q xs := by
  induction xs generalizing q with
  | nil => trivial
  | cons x xs ih =>
    simp only [slotsCheck, Bool.and_eq_true, decide_eq_true_eq] at h
    exact ⟨h.1.1.1, h.1.1.2, h.1.2, ih h.2⟩

/-- The test for `RingInv`. -/
def ringCheck (s : State) : Bool :=
  (s.rw.place.isSome ||
    decide (s.rw.reserve = 0 ∧ s.rw.filled = 0 ∧ s.rw.release = 0 ∧ s.rw.position = 0 ∧ s.rw.slots = [])) &&
    (s.rw.place.all fun p =>
      decide (2 ≤ p.capacity ∧ p.capacity ≤ 65535 ∧ (s.rw.reserve - s.rw.release).toNat ≤ p.capacity ∧
        s.rw.position < p.capacity) && slotsCheck p.capacity s.rw.position s.rw.filled s.rw.slots) &&
    decide ((s.rw.filled - s.rw.release).toNat + s.rw.slots.length = (s.rw.reserve - s.rw.release).toNat) &&
    (s.rw.slots.head?.all fun x => decide (x.progress ≠ .done)) &&
    decide (s.rw.pendingEnd.isSome = true → freeSlots s.rw = 0)

theorem ringInv_of_check {s : State} (h : ringCheck s = true) : RingInv s := by
  simp only [ringCheck, Bool.and_eq_true, Bool.or_eq_true, decide_eq_true_eq, Option.all_eq_true] at h
  obtain ⟨⟨⟨⟨hu, hp⟩, hn⟩, hh⟩, hm⟩ := h
  exact ⟨fun hnone => hu.resolve_left (by simp [hnone]), fun p he => ⟨(hp p he).1.1, (hp p he).1.2.1⟩,
    fun p he => (hp p he).1.2.2.1, hn, fun p he => (hp p he).1.2.2.2, fun p he => slotsFrom_of_check (hp p he).2,
    fun x xs he => hh x (by simp [he]), hm⟩

/-! ## The bounds -/

/-- The test for `CapacityInv`. -/
def capacityCheck (s : State) : Bool :=
  decide ((s.up.tracker.map TrackerEntry.number).Nodup ∧ (∀ e ∈ s.up.tracker, e.number < 48) ∧ s.up.tracker.length ≤ 48) &&
    decide (s.ce.holdQueue.length ≤ 8 ∧ s.ce.copies.length ≤ 4 ∧ s.ec.log.length ≤ 16 ∧ s.fq.records.length ≤ 8 ∧
      s.fq.lost ≤ 255 ∧ (0 < s.fq.lost → s.fq.records.length = 8)) &&
    decide ((s.dp.tags.map Tag.number).Nodup ∧ (∀ t ∈ s.dp.tags, t.number < 256) ∧ s.dp.tags.length ≤ 256 ∧
      outstandingTags s.dp ≤ 64) &&
    decide ((1 ≤ s.dp.copyShare ∧ s.dp.copyShare ≤ 255) ∧ s.dp.shareCounter ≤ 255 ∧
      (s.dp.background = [] → s.dp.shareCounter = 0)) &&
    decide (1 ≤ s.dp.responseLimit ∧ s.dp.responseLimit ≤ 65535 ∧ 1 ≤ s.ce.holdLimit ∧ s.ce.holdLimit ≤ 65535)

theorem capacityInv_of_check {s : State} (h : capacityCheck s = true) : CapacityInv s := by
  simp only [capacityCheck, Bool.and_eq_true, decide_eq_true_eq] at h
  obtain ⟨⟨⟨⟨⟨h1, h2, h3⟩, h4, h5, h6, h7, h8, h9⟩, h10, h11, h12, h13⟩, h14, h15, h16⟩, h17⟩ := h
  exact ⟨h1, h2, h3, h4, h5, h6, h7, h8, h9, h10, h11, h12, h13, h14, h15, h16, h17⟩

end Sys2Proof.Safety
end

