-- ==== Sys2Proof/Laws/Events.lean ====
section
/-! SUPPORT. For each shared operation, everything it can do, said once: the frames of an event and of an execution, and the
cases of the operations that move banks, copies, slots and holds. A proof cites these and unfolds nothing. -/

namespace Sys2Proof.Machine

/-! ## The frame of an event -/

theorem event_high {f : State → State} {s : State} (h : s.pins.rstN = true) : event f s = .next (raiseRingLow s (f s)) := by
  simp [event, h]

theorem event_low {f : State → State} {s : State} (h : s.pins.rstN = false) : event f s = .next s := by simp [event, h]

theorem execute_high {c : Instr} {body : State → Answer × State} {s : State} (h : s.pins.rstN = true) :
    execute c body s = .next (deliverAnswer c (body s).1 (raiseRingLow s (body s).2)) := by
  simp [execute, h]

theorem execute_low {c : Instr} {body : State → Answer × State} {s : State} (h : s.pins.rstN = false) :
    execute c body s = .next s := by
  simp [execute, h]

/-- An event that leaves the Ring Writer alone raises no RING_LOW. -/
@[simp] theorem raiseRingLow_of_rw {b a : State} (h : a.rw = b.rw) : raiseRingLow b a = a := by
  simp [raiseRingLow, h]

theorem raiseRingLow_self (s : State) : raiseRingLow s s = s := raiseRingLow_of_rw rfl

/-- RING_LOW or nothing. -/
theorem raiseRingLow_cases (b a : State) :
    raiseRingLow b a = a ∨
      (belowThreshold b.rw = false ∧ belowThreshold a.rw = true ∧ raiseRingLow b a = raiseCause .ringLow a) := by
  unfold raiseRingLow
  split
  · rename_i h
    simp only [Bool.and_eq_true, Bool.not_eq_true'] at h
    exact .inr ⟨h.1, h.2, rfl⟩
  · exact .inl rfl

theorem event_of_rw {f : State → State} {s : State} (h : s.pins.rstN = true) (hr : (f s).rw = s.rw) :
    event f s = .next (f s) := by
  rw [event_high h, raiseRingLow_of_rw hr]

/-- A command refused with a status changes nothing but the management port. -/
theorem execute_refuse {c : Instr} {body : State → Answer × State} {s : State} {st : Status} (h : s.pins.rstN = true)
    (hb : body s = refuse st s) : execute c body s = .next (deliverAnswer c { status := st, data := [] } s) := by
  rw [execute_high h, hb]
  simp [refuse, plain]

/-- A command taken, with the state and the data that its owning block gives. -/
theorem execute_taken {c : Instr} {body : State → Answer × State} {s t : State} {data : List Byte} (h : s.pins.rstN = true)
    (hb : body s = taken data t) (hr : t.rw = s.rw) :
    execute c body s = .next (deliverAnswer c { status := .ok, data := data } t) := by
  rw [execute_high h, hb]
  simp [taken, hr]

/-! ## Reports -/

/-- A report leaves the enable set alone. -/
@[simp] theorem reportBy_enable (r : Report) (amount : Counter → Nat) (s : State) :
    (reportBy r amount s).au.enable = s.au.enable := by
  simp only [reportBy]
  split <;> simp

theorem reportBy_tm (r : Report) (amount : Counter → Nat) (s : State) :
    (reportBy r amount s).tm = { counters := s.tm.counters.map fun c => if c.takes r then c.add (amount c) else c } := by
  simp only [reportBy]
  split <;> simp

/-- A report reads the counters and the pending causes alone, so it commutes with a change elsewhere. -/
theorem reportBy_congr {r : Report} {amount : Counter → Nat} {s t : State} (ht : t.tm = s.tm) (ha : t.au = s.au) :
    (reportBy r amount t).tm = (reportBy r amount s).tm ∧ (reportBy r amount t).au = (reportBy r amount s).au := by
  simp only [reportBy, ht]
  split <;> simp [ha]

/-- The fault queue after a report, whole. -/
theorem reportFault_cases (k : FaultKind) (f : FaultFields) (s : State) :
    (s.fq.records.length < 8 ∧
      (reportFault k f s).fq = { records := s.fq.records ++ [⟨s.fq.nextSeq, k, f, s.timestamp⟩], lost := s.fq.lost,
                                 nextSeq := s.fq.nextSeq + 1 }) ∨
    (8 ≤ s.fq.records.length ∧
      (reportFault k f s).fq = { s.fq with lost := min 255 (s.fq.lost + 1), nextSeq := s.fq.nextSeq + 1 }) := by
  unfold reportFault
  by_cases h : s.fq.records.length < Config.faultRecords
  · exact .inl ⟨h, by simp [h]⟩
  · exact .inr ⟨Nat.le_of_not_lt h, by simp [h]⟩

/-! ## Tracker and queues -/

theorem issueEntry_cases (n : Nat) (s : State) :
    (findEntry n s = none ∧ issueEntry n s = s) ∨
      ∃ e, findEntry n s = some e ∧
        issueEntry n s = pushPass (passRequest e) (changeEntry n (fun e => { e with phase := .issued, held := false }) s) := by
  unfold issueEntry
  cases findEntry n s with
  | none => exact .inl ⟨rfl, rfl⟩
  | some e => exact .inr ⟨e, rfl, rfl⟩

theorem endResetDrain_cases (s : State) :
    endResetDrain s = s ∨
      (s.up.portState = .resetDrain ∧ s.up.tracker = [] ∧
        endResetDrain s = { s with up := { s.up with portState := .accepting } }) := by
  unfold endResetDrain
  split
  · rename_i h; exact .inr ⟨h.1, h.2, rfl⟩
  · exact .inl rfl

@[simp] theorem endResetDrain_tracker (s : State) : (endResetDrain s).up.tracker = s.up.tracker := by
  unfold endResetDrain
  split <;> rfl

theorem clearShareIfIdle_cases (s : State) :
    (s.dp.background = [] ∧ clearShareIfIdle s = { s with dp := { s.dp with shareCounter := 0 } }) ∨
      (s.dp.background ≠ [] ∧ clearShareIfIdle s = s) := by
  unfold clearShareIfIdle
  cases s.dp.background <;> simp

/-- Entries leave a stream's walk, none joins it, and their order stays. -/
theorem splitAnswered_sublist (str : Stream) (b : Bool) (l : List TrackerEntry) :
    (splitAnswered str b l).1.Sublist l ∧ (splitAnswered str b l).2.Sublist l := by
  induction l generalizing b with
  | nil => simp [splitAnswered]
  | cons e es ih =>
    simp only [splitAnswered]
    split
    · split
      · exact ⟨(ih b).1.cons _, (ih b).2.cons_cons _⟩
      · exact ⟨(ih true).1.cons_cons _, (ih true).2.cons _⟩
    · exact ⟨(ih b).1.cons_cons _, (ih b).2.cons _⟩

/-- What leaves is ANSWERED and of the stream. -/
theorem splitAnswered_left {str : Stream} {b : Bool} {l : List TrackerEntry} {e : TrackerEntry}
    (h : e ∈ (splitAnswered str b l).2) : e.stream = str ∧ e.phase = .answered ∧ b = false := by
  induction l generalizing b with
  | nil => cases h
  | cons x xs ih =>
    simp only [splitAnswered] at h
    split at h
    · split at h
      · rename_i hx hb
        simp only [Bool.and_eq_true, Bool.not_eq_true', decide_eq_true_eq] at hb
        rcases List.mem_cons.1 h with rfl | h'
        · exact ⟨hx, hb.2, hb.1⟩
        · exact ih h'
      · exact absurd (ih h).2.2 (by decide)
    · exact ih h

/-! ## The ring -/

/-- A slot is reserved only while one is free, so an unplaced ring has none to give. -/
theorem freeSlots_pos {rw : RingWriter} (h : 1 ≤ freeSlots rw) : ∃ p, rw.place = some p := by
  unfold freeSlots at h
  cases hp : rw.place with
  | none => simp [hp] at h
  | some p => exact ⟨p, rfl⟩

theorem writeEndIfReady_cases (s : State) :
    writeEndIfReady s = s ∨
      ∃ q i x, s.rw.account.endSeq = some q ∧ cutBank s = some i ∧ findSlot q s = some x ∧ s.rw.filled = q ∧
        x.use = .endSlot ∧ x.progress = .reserved ∧ writeEndIfReady s = composeEnd (bank s i) x s := by
  unfold writeEndIfReady
  split
  · rename_i q i hq hi
    split
    · rename_i x hx
      split
      · rename_i hc
        exact .inr ⟨q, i, x, hq, hi, hx, hc.1, hc.2.1, hc.2.2, rfl⟩
      · exact .inl rfl
    · exact .inl rfl
  · exact .inl rfl

/-- What the END record does to the Ring Writer: the one slot becomes WRITING, nothing else changes. -/
theorem composeEnd_rw (b : Bank) (x : Slot) (s : State) :
    ∃ w : RecordWrite, (composeEnd b x s).rw =
      { s.rw with slots := s.rw.slots.map fun y =>
        if y.seq = x.seq then { y with progress := .writing, record := some w } else y } := by
  exact ⟨_, rfl⟩

theorem advanceFilled_cons (q : Seq) (x : Slot) (xs : List Slot) :
    advanceFilled q (x :: xs) =
      if x.seq = q ∧ x.progress = .done then
        ((advanceFilled (q + 1) xs).1, (advanceFilled (q + 1) xs).2.1,
          decide (x.use = .endSlot) || (advanceFilled (q + 1) xs).2.2)
      else (q, x :: xs, false) := rfl

/-- The advance passes a run of DONE slots: it drops them and counts them. -/
theorem advanceFilled_spec (q : Seq) (l : List Slot) :
    ∃ n, n ≤ l.length ∧ (advanceFilled q l).1 = q + BitVec.ofNat 32 n ∧ (advanceFilled q l).2.1 = l.drop n ∧
      ((advanceFilled q l).2.2 = true ↔ ∃ x ∈ l.take n, x.use = .endSlot) ∧ ∀ x ∈ l.take n, x.progress = .done := by
  induction l generalizing q with
  | nil => exact ⟨0, by simp [advanceFilled]⟩
  | cons x xs ih =>
    rw [advanceFilled_cons]
    split
    · rename_i h
      obtain ⟨n, h1, h2, h3, h4, h5⟩ := ih (q + 1)
      refine ⟨n + 1, by simpa using h1, ?_, by simpa using h3, ?_, ?_⟩
      · rw [h2]
        have : BitVec.ofNat 32 (n + 1) = BitVec.ofNat 32 n + 1#32 := by
          rw [BitVec.ofNat_add]
        rw [this]
        show q + 1#32 + BitVec.ofNat 32 n = q + (BitVec.ofNat 32 n + 1#32)
        rw [BitVec.add_assoc, BitVec.add_comm 1#32]
      · rw [Bool.or_eq_true, h4, List.take_succ_cons]
        simp
      · intro y hy
        rcases List.mem_cons.1 (by simpa using hy) with rfl | hy'
        · exact h.2
        · exact h5 y hy'
    · exact ⟨0, by simp⟩

/-! ## Banks on the move -/

theorem closeIfResolved_cases (i : BankId) (s : State) :
    closeIfResolved i s = s ∨
      ((bank s i).state = .draining ∧ (bank s i).allResolved = true ∧ closeIfResolved i s = becomeClosing i s) := by
  unfold closeIfResolved
  split
  · rename_i h; exact .inr ⟨h.1, h.2, rfl⟩
  · exact .inl rfl

theorem drainIfSettled_cases (i : BankId) (s : State) :
    drainIfSettled i s = s ∨
      ((bank s i).state = .settling ∧ (bank s i).settle = 0 ∧
        drainIfSettled i s = closeIfResolved i (startCopies (setBank i { bank s i with state := .draining } s))) := by
  unfold drainIfSettled
  split
  · rename_i h; exact .inr ⟨h.1, h.2, rfl⟩
  · exact .inl rfl

theorem countSettled_cases (e : Nat) (s : State) :
    (bankOfEpoch e s = none ∧ countSettled e s = s) ∨
      ∃ i, bankOfEpoch e s = some i ∧ countSettled e s = setBank i { bank s i with settle := (bank s i).settle - 1 } s := by
  unfold countSettled
  cases bankOfEpoch e s with
  | none => exact .inl ⟨rfl, rfl⟩
  | some i => exact .inr ⟨i, rfl, rfl⟩

theorem drainEpoch_cases (e : Nat) (s : State) :
    (bankOfEpoch e s = none ∧ drainEpoch e s = s) ∨ ∃ i, bankOfEpoch e s = some i ∧ drainEpoch e s = drainIfSettled i s := by
  unfold drainEpoch
  cases bankOfEpoch e s with
  | none => exact .inl ⟨rfl, rfl⟩
  | some i => exact .inr ⟨i, rfl, rfl⟩

/-- A change of a bank that keeps its epoch leaves every epoch in its bank. -/
theorem bankOfEpoch_setBank {i : BankId} {b : Bank} {s : State} (h : b.epoch = (bank s i).epoch) (e : Nat) :
    bankOfEpoch e (setBank i b s) = bankOfEpoch e s := by
  cases i <;> (simp only [bank] at h; simp only [bankOfEpoch, findBank, setBank, h]; rfl)

@[simp] theorem bankOfEpoch_countSettled (e x : Nat) (s : State) : bankOfEpoch e (countSettled x s) = bankOfEpoch e s := by
  rcases countSettled_cases x s with ⟨-, h⟩ | ⟨i, -, h⟩ <;> rw [h]
  exact bankOfEpoch_setBank (b := { bank s i with settle := (bank s i).settle - 1 }) rfl e

theorem leaveCount_cases (e : TrackerEntry) (s : State) :
    leaveCount e s = s ∨ (∃ t, e.epochTag = some t ∧ leaveCount e s = countSettled t s) ∨
      leaveCount e s = { s with ec := { s.ec with transparentWrites := s.ec.transparentWrites - 1 } } := by
  unfold leaveCount
  split
  · exact .inl rfl
  · split
    · rename_i t ht; exact .inr (.inl ⟨t, ht, rfl⟩)
    · split
      · exact .inl rfl
      · exact .inr (.inr rfl)

theorem drainAfter_cases (e : TrackerEntry) (s : State) :
    drainAfter e s = s ∨ ∃ t, e.epochTag = some t ∧ drainAfter e s = drainEpoch t s := by
  unfold drainAfter
  split
  · exact .inl rfl
  · split
    · rename_i t ht; exact .inr ⟨t, ht, rfl⟩
    · exact .inl rfl

theorem completeWrite_cases (e : TrackerEntry) (s : State) :
    completeWrite e s = s ∨
      (∃ t i, e.epochTag = some t ∧ bankOfEpoch t s = some i ∧
        completeWrite e s = drainIfSettled i (setBank i { bank s i with settle := (bank s i).settle - 1 } s)) ∨
      completeWrite e s = { s with ec := { s.ec with transparentWrites := s.ec.transparentWrites - 1 } } := by
  unfold completeWrite leaveCount drainAfter
  cases e.stream.direction with
  | read => exact .inl rfl
  | write =>
    cases ht : e.epochTag with
    | none =>
      cases e.mode with
      | guarded => exact .inl rfl
      | transparent => exact .inr (.inr rfl)
    | some t =>
      rcases drainEpoch_cases t (countSettled t s) with ⟨hn, hd⟩ | ⟨i, hi, hd⟩
      · rw [bankOfEpoch_countSettled] at hn
        exact .inl (hd.trans (by simp only [countSettled, hn]))
      · rw [bankOfEpoch_countSettled] at hi
        exact .inr (.inl ⟨t, i, rfl, hi, hd.trans (by simp only [countSettled, hi])⟩)

/-- A copy starts or the starts end: one step of R83. -/
theorem startCopiesUpTo_succ (n : Nat) (s : State) :
    startCopiesUpTo (n + 1) s = s ∨
      ∃ i index byHold, drainingBank s = some i ∧ s.ce.copies.length < 4 ∧ 1 ≤ freeSlots s.rw ∧
        chooseCopy (bank s i) s.ce.holdQueue = some (index, byHold) ∧
        startCopiesUpTo (n + 1) s = startCopiesUpTo n (startCopy i index byHold s) := by
  simp only [startCopiesUpTo]
  split
  · rename_i h
    simp only [Bool.and_eq_true, decide_eq_true_eq, wantsCopy] at h
    split
    · exact .inl rfl
    · rename_i i hi
      split
      · exact .inl rfl
      · rename_i index byHold hc
        exact .inr ⟨i, index, byHold, hi, h.1.1, h.2, hc, rfl⟩
  · exact .inl rfl

/-- A property that every start keeps, the starts keep. -/
theorem startCopies_induction {P : State → Prop} {s : State} (h0 : P s)
    (h : ∀ t i index byHold, P t → drainingBank t = some i → t.ce.copies.length < 4 → 1 ≤ freeSlots t.rw →
      chooseCopy (bank t i) t.ce.holdQueue = some (index, byHold) → P (startCopy i index byHold t)) : P (startCopies s) := by
  unfold startCopies
  generalize Config.copyOperations = n
  induction n generalizing s with
  | zero => simpa [startCopiesUpTo] using h0
  | succ n ih =>
    rcases startCopiesUpTo_succ n s with he | ⟨i, index, byHold, h1, h2, h3, h4, he⟩
    · rw [he]; exact h0
    · rw [he]; exact ih (h s i index byHold h0 h1 h2 h3 h4)

theorem heldPowerCut_cases (s : State) :
    (s.ec.powerCutPending = false ∧ heldPowerCut s = s) ∨
      (s.ec.powerCutPending = true ∧
        (heldPowerCut s = setPowerCutPending false s ∨
          ∃ i, openBank s = some i ∧ (bank s i).epoch.getD 0 < 4294967295 ∧ heldPowerCut s = acceptCut i .power s)) := by
  unfold heldPowerCut
  split
  · rename_i h
    refine .inr ⟨h, ?_⟩
    split
    · rename_i i hi
      split
      · rename_i hl; exact .inr ⟨i, hi, hl, rfl⟩
      · exact .inl rfl
    · exact .inl rfl
  · rename_i h; exact .inl ⟨by simpa using h, rfl⟩

theorem closeEpoch_cases (s : State) :
    closeEpoch s = s ∨
      ∃ i, cutBank s = some i ∧ (bank s i).state = .closing ∧
        closeEpoch s = heldPowerCut { endEpoch i (closedRecord (bank s i) s.rw.account) s with
          rw := { s.rw with account := emptyAccount } } := by
  unfold closeEpoch
  split
  · exact .inl rfl
  · rename_i i hi
    split
    · rename_i h; exact .inr ⟨i, hi, h, by simp⟩
    · exact .inl rfl

theorem setReason_cases (i : BankId) (r : DamageReason) (s : State) :
    ((bank s i).damage ≠ none ∧ setReason i r s = s) ∨
      ((bank s i).damage = none ∧
        (setReason i r s = setBank i { bank s i with damage := some r } s ∨
          setReason i r s = raiseCause .epochDamaged (setBank i { bank s i with damage := some r } s))) := by
  unfold setReason
  cases h : (bank s i).damage with
  | some d => exact .inl ⟨by simp, by simp⟩
  | none =>
    refine .inr ⟨rfl, ?_⟩
    by_cases hr : r = .abandon
    · exact .inl (by simp [hr])
    · exact .inr (by simp [hr])

theorem damageBank_cases (i : BankId) (r : DamageReason) (s : State) :
    (((bank s i).state = .free ∨ (bank s i).state = .opened) ∧ damageBank i r s = s) ∨
      ((bank s i).state = .closing ∧ damageBank i r s = setReason i r s) ∨
      (((bank s i).state = .settling ∨ (bank s i).state = .draining) ∧
        damageBank i r s = giveUpCopying i (setReason i r s)) := by
  unfold damageBank
  cases h : (bank s i).state <;> simp

/-- A property that every completion keeps, the completions of an event keep. -/
theorem finishCopies_induction {P : State → Prop} {s : State} (h0 : P s)
    (h : ∀ t c, P t → c ∈ t.ce.copies → 16 ≤ c.resolved → P (completeCopy c t)) : P (finishCopies s) := by
  unfold finishCopies
  generalize s.ce.copies.map CopyOp.seq = l
  induction l generalizing s with
  | nil => exact h0
  | cons q qs ih =>
    refine ih ?_
    unfold finishCopy
    split
    · exact h0
    · rename_i c hc
      split
      · rename_i hr; exact h s c h0 (List.mem_of_find?_eq_some hc) hr
      · exact h0

/-- A property that every release keeps, a release scan keeps once the queue is cut. -/
theorem releaseScan_induction {P : State → Prop} {s : State}
    (h0 : P { s with ce := { s.ce with holdQueue := (scanHolds (granuleResolved s) [] s.ce.holdQueue).1 } })
    (h : ∀ t x, P t → P (releaseHold t x)) : P (releaseScan s) := by
  unfold releaseScan
  dsimp only
  generalize ({ s with ce := _ } : State) = t at h0 ⊢
  generalize (scanHolds (granuleResolved s) [] s.ce.holdQueue).2 = l
  induction l generalizing t with
  | nil => exact h0
  | cons x xs ih => exact ih _ (h t x h0)

/-! ## Responses -/

theorem takeResponse_cases (d : DsResult) (r : Response) (s : State) :
    (findTag r.tag s = none ∧ takeResponse d r s = reportFault .lateResponse { direction := some r.direction } s) ∨
      (∃ t, findTag r.tag s = some t ∧ t.state = .expired ∧ takeResponse d r s = lateOnTag t s) ∨
      (∃ t limit elapsed, findTag r.tag s = some t ∧ t.state = .outstanding limit elapsed ∧
        (d = .okay ∧ takeResponse d r s = requestOkay t r (dropTag t.number s) ∨
          d = .error ∧ takeResponse d r s = requestFailed t .downstreamError .copyError (dropTag t.number s))) := by
  unfold takeResponse
  cases h : findTag r.tag s with
  | none => exact .inl ⟨rfl, rfl⟩
  | some t =>
    cases ht : t.state with
    | expired => exact .inr (.inl ⟨t, rfl, ht, by simp [ht]⟩)
    | outstanding limit elapsed =>
      refine .inr (.inr ⟨t, limit, elapsed, rfl, ht, ?_⟩)
      cases d
      · exact .inl ⟨rfl, by simp [ht]⟩
      · exact .inr ⟨rfl, by simp [ht]⟩

theorem expireResponse_cases (n : Nat) (s : State) :
    expireResponse n s = s ∨
      ∃ t limit elapsed, findTag n s = some t ∧ t.state = .outstanding limit elapsed ∧ limit ≤ elapsed ∧
        expireResponse n s = requestFailed t .downstreamTimeout .copyTimeout
          (report { event := .dsTimeouts, domain := t.domain, window := t.window, direction := some t.source.direction } 1
            (expireTag n s)) := by
  unfold expireResponse
  cases h : findTag n s with
  | none => exact .inl rfl
  | some t =>
    cases ht : t.state with
    | expired => exact .inl (by simp [Tag.due, ht])
    | outstanding limit elapsed =>
      by_cases hl : limit ≤ elapsed
      · exact .inr ⟨t, limit, elapsed, rfl, ht, hl, by simp [Tag.due, ht, hl]⟩
      · exact .inl (by simp [Tag.due, ht, hl])

theorem grantNext_cases (s : State) :
    grantNext s = s ∨
      ∃ n c, outstandingTags s.dp < 64 ∧ freeTag s.dp = some n ∧ choose s.dp = some c ∧
        grantNext s = { s with
          dp := { c.port with tags := c.port.tags ++ [newTag n s.dp.responseLimit c.request] }
          out := { s.out with presented := s.out.presented ++ [(n, c.request)] } } := by
  unfold grantNext
  split
  · rename_i h
    split
    · rename_i n c hn hc; exact .inr ⟨n, c, h, hn, hc, rfl⟩
    · exact .inl rfl
  · exact .inl rfl

/-! ## Acceptance -/

theorem acceptStaged_cases (s : State) :
    acceptStaged s = s ∨
      ∃ w n, s.up.staging = some w ∧ s.up.portState = .accepting ∧ freeEntry s = some n ∧ s.ce.holdQueue.length < 8 ∧
        acceptStaged s = acceptInto n .write w.txn w.data w.strobes { s with up := { s.up with staging := none } } := by
  unfold acceptStaged mayAccept
  cases hs : s.up.staging with
  | none => exact .inl (by simp)
  | some w =>
    by_cases hp : s.up.portState = .accepting
    · cases hn : freeEntry s with
      | none => exact .inl (by simp [hp])
      | some n =>
        by_cases hq : s.ce.holdQueue.length < Config.holdQueueEntries
        · exact .inr ⟨w, n, rfl, hp, rfl, hq, by simp [hp, hq]⟩
        · exact .inl (by simp [hp, hq])
    · exact .inl (by simp [hp])

theorem acceptRead_cases (t : Txn) (s : State) :
    acceptRead t s = s ∨
      ∃ n, s.up.portState = .accepting ∧ freeEntry s = some n ∧ acceptRead t s = acceptInto n .read t [] [] s := by
  unfold acceptRead mayAccept
  by_cases hp : s.up.portState = .accepting
  · cases hn : freeEntry s with
    | none => exact .inl (by simp [hp])
    | some n => exact .inr ⟨n, hp, rfl, by simp [hp]⟩
  · exact .inl (by simp [hp])

theorem holdCheck_cases (n g : Nat) (str : WriteStream) (r : LookupResult) (s : State) :
    (∃ i d, ownHold s g = some (i, d) ∧ holdCheck n g str r s = holdOwn n str i d r s) ∨
      (ownHold s g = none ∧ (∃ h ∈ s.ce.holdQueue, h.stream = str) ∧
        holdCheck n g str r s = joinQueue { entry := n, stream := str, reason := .behind } r s) ∨
      (ownHold s g = none ∧ (∀ h ∈ s.ce.holdQueue, h.stream ≠ str) ∧ holdCheck n g str r s = issueEntry n s) := by
  unfold holdCheck
  cases ho : ownHold s g with
  | some p => exact .inl ⟨p.1, p.2, rfl, rfl⟩
  | none =>
    by_cases hq : s.ce.holdQueue.any (fun h => decide (h.stream = str)) = true
    · refine .inr (.inl ⟨rfl, by simpa using hq, by simp [hq]⟩)
    · refine .inr (.inr ⟨rfl, by simpa using hq, by simp [hq]⟩)

theorem ownHold_some {s : State} {g : Nat} {i : BankId} {d : DirtyEntry} (h : ownHold s g = some (i, d)) :
    holdBank s = some i ∧ (bank s i).entryOf g = some d ∧ d.state.isWaiting = true := by
  unfold ownHold at h
  split at h
  · cases h
  · rename_i j hj
    split at h
    · cases h
    · rename_i e he
      split at h
      · rename_i hw
        cases h
        exact ⟨hj, he, hw⟩
      · cases h

end Sys2Proof.Machine
end

