-- ==== Sys2Proof/Laws/PerInstr.lean ====
section
/-! SUPPORT. A property of every command as syntax, one lemma per constructor: the request frame of a management command is 5 to
65 bytes long (R177), and an event of a port, a pin or the timebase has no frame. -/

namespace Sys2Proof.Laws.FrameLength

/-- A request frame of the command is 5 to 65 bytes long (R177). -/
def Statement (i : Instr) : Prop := ∀ tag frame, frameOf tag i = some frame → 5 ≤ frame.length ∧ frame.length ≤ 65

/-- The bytes of a field number its width. -/
@[simp] theorem length_beBytes (n v : Nat) : (beBytes n v).length = n := by
  induction n with
  | zero => rfl
  | succ n ih => simp [beBytes, ih]

/-- A frame is 5 bytes longer than its parameters. -/
theorem of_params {i : Instr} {code : Byte} {params : List Byte} (h : encode i = some (code, params))
    (hn : params.length ≤ 60) : Statement i := by
  intro tag frame hf
  simp only [frameOf, h, Option.map_some, Option.some.injEq] at hf
  subst hf
  simp [requestFrameOf]
  omega

/-- An event has no frame. -/
theorem of_none {i : Instr} (h : encode i = none) : Statement i := by
  intro tag frame hf
  simp [frameOf, h] at hf

theorem readStatus : Statement .readStatus := of_params rfl (by simp)

theorem setMode (mode : Nat) : Statement (.setMode mode) := of_params rfl (by simp)

theorem setMemoryLimit (limit : Nat) : Statement (.setMemoryLimit limit) := of_params rfl (by simp)

theorem setTimeouts (response hold : Nat) : Statement (.setTimeouts response hold) := of_params rfl (by simp)

theorem setCopyShare (share : Nat) : Statement (.setCopyShare share) := of_params rfl (by simp)

theorem mapInitiator (initiator domain : Nat) : Statement (.mapInitiator initiator domain) := of_params rfl (by simp)

theorem readDomainMap : Statement .readDomainMap := of_params rfl (by simp)

theorem installWindow (window domain anchor growth extent base key journaled : Nat) : Statement (.installWindow window domain anchor growth extent base key journaled) := of_params rfl (by simp)

theorem removeWindow (window : Nat) : Statement (.removeWindow window) := of_params rfl (by simp)

theorem extendWindow (window extent : Nat) : Statement (.extendWindow window extent) := of_params rfl (by simp)

theorem setKey (window key : Nat) : Statement (.setKey window key) := of_params rfl (by simp)

theorem readWindow (window : Nat) : Statement (.readWindow window) := of_params rfl (by simp)

theorem journalStart (epoch : Nat) : Statement (.journalStart epoch) := of_params rfl (by simp)

theorem cut : Statement .cut := of_params rfl (by simp)

theorem journalStop : Statement .journalStop := of_params rfl (by simp)

theorem abandon : Statement .abandon := of_params rfl (by simp)

theorem readBank (bank start : Nat) : Statement (.readBank bank start) := of_params rfl (by simp)

theorem lookupGranule (granule : Nat) : Statement (.lookupGranule granule) := of_params rfl (by simp)

theorem readSpill (bank start : Nat) : Statement (.readSpill bank start) := of_params rfl (by simp)

theorem configureRing (base slots : Nat) : Statement (.configureRing base slots) := of_params rfl (by simp)

theorem unconfigureRing (base : Nat) : Statement (.unconfigureRing base) := of_params rfl (by simp)

theorem releaseSlots (count : Nat) : Statement (.releaseSlots count) := of_params rfl (by simp)

theorem readRing : Statement .readRing := of_params rfl (by simp)

theorem setRingLow (threshold : Nat) : Statement (.setRingLow threshold) := of_params rfl (by simp)

theorem readEpoch (age start : Nat) : Statement (.readEpoch age start) := of_params rfl (by simp)

theorem readFault : Statement .readFault := of_params rfl (by simp)

theorem setCounter (counter event domain window direction scope enable : Nat) : Statement (.setCounter counter event domain window direction scope enable) := of_params rfl (by simp)

theorem readCounter (counter : Nat) : Statement (.readCounter counter) := of_params rfl (by simp)

theorem clearCounter (counter : Nat) : Statement (.clearCounter counter) := of_params rfl (by simp)

theorem setAlertEnable (causes : Byte) : Statement (.setAlertEnable causes) := of_params rfl (by simp)

theorem readAlerts : Statement .readAlerts := of_params rfl (by simp)

theorem ackAlerts (causes : Byte) : Statement (.ackAlerts causes) := of_params rfl (by simp)

theorem csNFall : Statement .csNFall := of_none rfl

theorem csNRise : Statement .csNRise := of_none rfl

theorem requestFrame (bytes : List Byte) : Statement (.requestFrame bytes) := of_none rfl

theorem frameRefusal : Statement .frameRefusal := of_none rfl

theorem rstNAssert : Statement .rstNAssert := of_none rfl

theorem rstNRelease : Statement .rstNRelease := of_none rfl

theorem portRstNAssert : Statement .portRstNAssert := of_none rfl

theorem portRstNDeassert : Statement .portRstNDeassert := of_none rfl

theorem pwrwarnAssert : Statement .pwrwarnAssert := of_none rfl

theorem pwrwarnDeassert : Statement .pwrwarnDeassert := of_none rfl

theorem writeStaging (w : WriteTxn) : Statement (.writeStaging w) := of_none rfl

theorem acceptance (p : Presented) : Statement (.acceptance p) := of_none rfl

theorem grant : Statement .grant := of_none rfl

theorem responseOkay (r : Response) : Statement (.responseOkay r) := of_none rfl

theorem responseError (r : Response) : Statement (.responseError r) := of_none rfl

theorem lateResponse (result : DsResult) (r : Response) : Statement (.lateResponse result r) := of_none rfl

theorem responseTimerExpiry (tag : Nat) : Statement (.responseTimerExpiry tag) := of_none rfl

theorem holdTimerExpiry (entry : Nat) : Statement (.holdTimerExpiry entry) := of_none rfl

theorem usTick : Statement .usTick := of_none rfl

theorem responseByteShiftedOut : Statement .responseByteShiftedOut := of_none rfl

end Sys2Proof.Laws.FrameLength
end

