-- ==== Sys2Proof/Tests/Slice0.lean ====
section
/-! SUPPORT. The model's own tests: ill-formed commands refused, the worked examples of the manual (the expected values are the
manual's, and each test names its table or rule), and for every statement of Sys2Proof/Certificates/Slice0/Obligations.lean
that has hypotheses a witness, a concrete state and operands that meet them together. -/

namespace Sys2Proof.Tests

open Sys2Proof Sys2Proof.Machine Sys2Proof.Safety

-- One theorem at a time: the evaluations below each wait for the kernel, and hundreds at once exhaust the threads.
set_option Elab.async false

/-! ## Small states -/

/-- The state after a command. -/
def after (c : Instr) (s : State) : State :=
  match exec c s with
  | .next t => t
  | .fault _ => s
  | .refused _ => s

/-- The status that the last execution gave. -/
def statusOf (s : State) : Option Status := s.mp.answer.map Answer.status

/-- Window 5 of Table 1.3.3. -/
def window5 : Window :=
  { domain := 2, anchor := 0x40000000, growth := .up, extent := 256, memBase := 0x100000000, key := .readWrite,
    journaled := true }

/-- Window 6 of Table 1.3.3. -/
def window6 : Window :=
  { domain := 2, anchor := 0x80000000, growth := .down, extent := 16, memBase := 0x120000000, key := .readWrite,
    journaled := true }

/-- Window 12 of Table 1.3.3. -/
def window12 : Window :=
  { domain := 2, anchor := 0x90000000, growth := .up, extent := 4, memBase := 0x100000000, key := .read,
    journaled := false }

/-- The setting of section 1.3.1 in GUARDED mode: the Domain Map, the three windows, the Memory Limit. -/
def tables : WindowUnit :=
  { mode := .guarded
    domainMap := (((Vector.replicate 64 none).setIfInBounds 9 (some 2)).setIfInBounds 10 (some 2)).setIfInBounds 11 (some 3)
    windows := (((Vector.replicate 64 none).setIfInBounds 5 (some window5)).setIfInBounds 6 (some window6)).setIfInBounds 12
      (some window12)
    memoryLimit := 1310720 }

/-- The ring of section 1.6.1. -/
def ringPlace : RingPlace := { base := 0x130000000, capacity := 64 }

/-- GUARDED, the tables of chapter 1, the ring configured, the journal OFF. -/
def guarded : State :=
  { State.reset with wu := tables, rw := { resetRingWriter with place := some ringPlace } }

/-- A PENDING entry with no write held. -/
def pendingEntry (g : Nat) : DirtyEntry := { granule := g, state := .pending, held := 0 }

/-- A bank with a state, an epoch and a list. -/
def bankWith (st : BankState) (e : Nat) (dirty : List DirtyEntry) : Bank :=
  { freeBank with state := st, epoch := some e, dirty := dirty, listed := dirty.length }

/-- `guarded` with these banks, RECORDING when one is OPEN. -/
def withBanks (a b : Bank) : State :=
  { guarded with
    ju := { bankA := a, bankB := b }
    ec := { guarded.ec with
      journal := if a.state = .opened ∨ b.state = .opened then .recording else .off } }

/-- A transaction of initiator 9 with ordering tag 2. -/
def txn9 (host length : Nat) : Txn :=
  { initiator := 9, otag := 2, host := host, length := length, beats := length, exclusive := false }

/-- A write of `txn9` with every strobe on. -/
def write9 (host length : Nat) : WriteTxn :=
  { txn := txn9 host length, data := List.replicate length 0x11#8, strobes := List.replicate length true }

/-- A guarded tracker entry of initiator 9, tag 2, with no data. -/
def entryWith (n : Nat) (phase : Phase) (dir : Direction) (epochTag : Option Nat) : TrackerEntry :=
  { number := n, phase := phase, stream := { initiator := 9, otag := 2, direction := dir }, host := 0x40003000, length := 16,
    mode := .guarded, domain := some 2, window := some 5, memory := some 0x100003000, epochTag := epochTag,
    held := decide (phase = .held), outcome := if phase = .answered then some .refused else none, readData := [],
    exclusiveResult := none, delivery := .deliver, data := [], strobes := [], exclusive := false }

/-- A tag of a source whose timer has run for some of 250 µs. -/
def tagWith (n elapsed : Nat) (source : Source) : Tag :=
  { number := n, state := .outstanding 250 elapsed, source := source, address := 0x100003000, initiator := some 9,
    domain := some 2, window := some 5 }

/-- A response with a tag. -/
def responseTo (tag : Nat) (dir : Direction) (data : List Byte) : Response :=
  { tag := tag, direction := dir, data := data, exclusive := none }

/-! ## Ill-formed commands are refused -/

theorem test_wf_one_byte : (Instr.setMode 256).wf = false ∧ (Instr.setMode 255).wf = true := by decide +kernel
theorem test_wf_two_bytes : (Instr.setTimeouts 65536 1).wf = false ∧ (Instr.setTimeouts 1 65536).wf = false := by decide +kernel
theorem test_wf_three_bytes : (Instr.extendWindow 5 0x1000000).wf = false ∧ (Instr.extendWindow 5 0xFFFFFF).wf = true := by
  decide +kernel
theorem test_wf_four_bytes : (Instr.journalStart 0x100000000).wf = false := by decide +kernel
theorem test_wf_six_bytes : (Instr.installWindow 5 2 0x1000000000000 0 1 0 2 1).wf = false := by decide +kernel
theorem test_wf_ring_without_slots : (Instr.configureRing 0 0).wf = false ∧ (Instr.configureRing 0 1).wf = true := by decide +kernel
theorem test_wf_frame_length : (Instr.requestFrame (List.replicate 66 0#8)).wf = false := by decide +kernel
theorem test_wf_initiator : (Instr.acceptance (.read { txn9 0 8 with initiator := 64 })).wf = false := by decide +kernel
theorem test_wf_otag : (Instr.acceptance (.read { txn9 0 8 with otag := 16 })).wf = false := by decide +kernel
theorem test_wf_host : (Instr.acceptance (.read (txn9 (2 ^ 40) 8))).wf = false := by decide +kernel
theorem test_wf_write_data : (Instr.writeStaging { write9 0 8 with data := [] }).wf = false := by decide +kernel
theorem test_wf_write_strobes : (Instr.writeStaging { write9 0 8 with strobes := [] }).wf = false := by decide +kernel
theorem test_wf_response_tag : (Instr.responseOkay (responseTo 256 .read [])).wf = false := by decide +kernel
theorem test_wf_expiry_tag : (Instr.responseTimerExpiry 256).wf = false := by decide +kernel
theorem test_wf_hold_entry : (Instr.holdTimerExpiry 48).wf = false := by decide +kernel

/-! ## Chapters 11 and 12: the frame -/

/-- The check value of R187's CRC-8 (polynomial 0x07, initial value 0) for the ASCII digits 1 to 9. -/
theorem test_crc8 : crc8 ((List.range 9).map fun n => BitVec.ofNat 8 (0x31 + n)) = 0xF4#8 := by decide +kernel

/-- The check value of R189's CRC-32 for the ASCII digits 1 to 9. -/
theorem test_crc32 : crc32 ((List.range 9).map fun n => BitVec.ofNat 8 (0x31 + n)) = 0xCBF43926#32 := by decide +kernel

/-- The setting of Table 11.2.3: bank B OPEN with epoch 41, bank A FREE, an exchange begun. -/
def cutSetting : State :=
  { withBanks freeBank (bankWith .opened 41 [pendingEntry 0x100032]) with
    mp := { State.reset.mp with exchange := .receiving, sdo := some 0#8 } }

/-- Bytes 0 to 4 of Table 11.2.3: the frame of CUT with tag 0x37 awaits its execution. -/
theorem test_cut_frame :
    (after (.requestFrame [0xA5#8, 0x21#8, 0x37#8, 0x00#8, crc8 [0xA5#8, 0x21#8, 0x37#8, 0x00#8]]) cutSetting).mp =
      { cutSetting.mp with
        exchange := .waiting, awaiting := some { code := 0x21#8, tag := 0x37#8, params := [] } } := by decide +kernel

/-- The rest of Table 11.2.3: the cut, then start byte, OK, tag, 10 data bytes (bank B, epoch 41, bank A, epoch 42), CRC. -/
theorem test_cut_response :
    (after .cut { cutSetting with mp := { cutSetting.mp with
        exchange := .waiting, awaiting := some { code := 0x21#8, tag := 0x37#8, params := [] } } }).mp.response.take 14 =
      [0x5A#8, 0x00#8, 0x37#8, 10#8, 1#8, 0#8, 0#8, 0#8, 41#8, 0#8, 0#8, 0#8, 0#8, 42#8] := by decide +kernel

/-- The end of section 11.2.1: a second CUT is answered BUSY. -/
theorem test_cut_busy : statusOf (after .cut (after .cut cutSetting)) = some .busy := by decide +kernel

/-! ## Chapter 1: Tables 1.4.3 and 1.6.2 -/

theorem test_lookup_window5 :
    lookup tables .read (txn9 0x40032A40 64) =
      { refusal := none, domain := some 2, window := some 5, memory := some 0x100032A40, journaled := true } := by decide +kernel
theorem test_lookup_window6 :
    lookup tables .write { txn9 0x7FFFF010 16 with initiator := 10 } =
      { refusal := none, domain := some 2, window := some 6, memory := some 0x11FFFF010, journaled := true } := by decide +kernel
theorem test_lookup_no_window :
    lookup tables .write (txn9 0x40100000 32) =
      { refusal := some .noWindow, domain := some 2, window := none, memory := none, journaled := false } := by decide +kernel
theorem test_lookup_malformed :
    lookup tables .write { txn9 0x40000FC0 128 with initiator := 10 } =
      { refusal := some .malformed, domain := none, window := none, memory := none, journaled := false } := by decide +kernel
theorem test_lookup_no_domain :
    lookup tables .read { txn9 0x40000000 8 with initiator := 20 } =
      { refusal := some .noDomain, domain := none, window := none, memory := none, journaled := false } := by decide +kernel
theorem test_lookup_key_denied :
    lookup tables .write (txn9 0x90000100 64) =
      { refusal := some .keyDenied, domain := some 2, window := some 12, memory := some 0x100000100, journaled := false } := by
  decide +kernel
theorem test_lookup_other_domain :
    lookup tables .read { txn9 0x40032A40 64 with initiator := 11 } =
      { refusal := some .noWindow, domain := some 3, window := none, memory := none, journaled := false } := by decide +kernel

/-- The state before step 1 of Table 1.6.2: window 6 extended to extent 32. -/
def extended : State := after (.extendWindow 6 32) guarded

/-- Step 1. -/
theorem test_install_overlap :
    statusOf (after (.installWindow 7 2 0x40080000 0 16 0x110000000 2 1) extended) = some .overlap := by decide +kernel
/-- Steps 2 and 3. -/
theorem test_install_in_use :
    statusOf (after (.installWindow 7 3 0x40080000 0 16 0x110000000 2 1) extended) = some .ok ∧
      statusOf (after (.installWindow 7 3 0x50000000 0 1 0x110000000 1 0)
        (after (.installWindow 7 3 0x40080000 0 16 0x110000000 2 1) extended)) = some .inUse := by decide +kernel
/-- Steps 4 and 7. -/
theorem test_install_range :
    statusOf (after (.installWindow 8 2 0xFFFFFF0000 0 32 0x111000000 2 0) extended) = some .range ∧
      statusOf (after (.installWindow 10 2 0x10000 1 17 0x112000000 2 1) extended) = some .range := by decide +kernel
/-- Steps 5 and 6. -/
theorem test_install_ring_conflict :
    statusOf (after (.installWindow 9 3 0x60000000 0 65 0x130000000 2 0) extended) = some .ringConflict ∧
      statusOf (after (.installWindow 9 3 0x60000000 0 65 0x130000000 1 0) extended) = some .ok := by decide +kernel
/-- Step 8. -/
theorem test_install_bad_param :
    statusOf (after (.installWindow 64 2 0x40080000 0 16 0x110000000 2 1) extended) = some .badParam := by decide +kernel

/-! ## Chapters 2 and 3: Tables 2.3.1, 2.4.1 and 3.3.1 -/

/-- Table 2.3.1 from its third line: bank B SETTLING 41 with two writes, bank A OPEN 42 with one. -/
def settling : State :=
  let s := withBanks { bankWith .opened 42 [] with settle := 1 }
    { bankWith .settling 41 [pendingEntry 0x100032] with settle := 2 }
  { s with up := { s.up with tracker :=
      [entryWith 0 .issued .write (some 41), entryWith 1 .issued .write (some 41), entryWith 2 .issued .write (some 42)] } }

/-- The cut of Table 2.3.1. -/
theorem test_cut_settles :
    (after .cut (withBanks freeBank { bankWith .opened 41 [pendingEntry 0x100032] with settle := 2 })).ju =
      { bankA := bankWith .opened 42 [], bankB := { bankWith .settling 41 [pendingEntry 0x100032] with settle := 2 } } := by
  decide +kernel
/-- W1 completes, then W3, then W2, and bank B is DRAINING with its one copy started. -/
theorem test_settle_counts :
    (completeWrite (entryWith 0 .issued .write (some 41)) settling).ju.bankB.settle = 1 ∧
      (completeWrite (entryWith 2 .issued .write (some 42)) settling).ju.bankA.settle = 0 ∧
      (completeWrite (entryWith 1 .issued .write (some 41))
        (completeWrite (entryWith 0 .issued .write (some 41)) settling)).ju.bankB.state = .draining := by decide +kernel

/-- Steps 4, 5 and 6 of Table 2.4.1. -/
theorem test_spill_widens :
    spillThrough 5 0x1000C3 [] = [{ window := 5, low := 0x1000C3, high := 0x1000C3 }] ∧
      spillThrough 5 0x100081 [{ window := 5, low := 0x1000C3, high := 0x1000C3 }] =
        [{ window := 5, low := 0x100081, high := 0x1000C3 }] ∧
      spillThrough 6 0x11FFF0 [{ window := 5, low := 0x100081, high := 0x1000C3 }] =
        [{ window := 5, low := 0x100081, high := 0x1000C3 }, { window := 6, low := 0x11FFF0, high := 0x11FFF0 }] := by decide +kernel

/-- A log record of an epoch. -/
def recordOf (e : Nat) : LogRecord :=
  { epoch := e, status := .complete, damage := none, listed := 1, copied := 1, skipped := 0, urgent := 0, firstData := some 0,
    endSeq := some 1, power := false, portReset := false, spill := [] }

/-- The setting of Table 3.3.1. -/
def startSetting : State :=
  let s := withBanks (bankWith .closing 58 []) freeBank
  { s with ec := { s.ec with log := (List.range 8).map fun n => recordOf (57 - n) } }

theorem test_start_refused :
    statusOf (after (.journalStart 0) startSetting) = some .badParam ∧
      statusOf (after (.journalStart 57) startSetting) = some .badEpoch ∧
      statusOf (after (.journalStart 58) startSetting) = some .badEpoch := by decide +kernel
theorem test_start_taken :
    (after (.journalStart 90) startSetting).ju.bankB = bankWith .opened 90 [] ∧
      statusOf (after (.journalStart 91) (after (.journalStart 90) startSetting)) = some .busy := by decide +kernel

/-! ## Chapter 6: Table 6.1.2 -/

/-- The setting of Table 6.1.2: bank B closes epoch 116, which spilled through two windows. -/
def logSetting : State :=
  let s := withBanks freeBank { bankWith .closing 116 [] with
    spill := [{ window := 5, low := 1, high := 2 }, { window := 6, low := 3, high := 3 }] }
  { s with ec := { s.ec with log := (List.range 16).map fun n => recordOf (115 - n) } }

theorem test_log_read :
    (after (.readEpoch 15 0) logSetting).mp.answer.map (fun a => a.data.take 5) = some [16#8, 0#8, 0#8, 0#8, 100#8] ∧
      (after (.readEpoch 15 0) (closeEpoch logSetting)).mp.answer.map (fun a => a.data.take 5) =
        some [16#8, 0#8, 0#8, 0#8, 101#8] ∧
      (after (.readEpoch 0 0) (closeEpoch logSetting)).mp.answer.map (fun a => a.data.take 6) =
        some [16#8, 0#8, 0#8, 0#8, 116#8, 1#8] := by decide +kernel
theorem test_log_read_bad : statusOf (after (.readEpoch 16 0) logSetting) = some .badParam := by decide +kernel

/-! ## Chapter 7: Tables 7.4.1 and 7.5.1 -/

/-- The start of Table 7.4.1: bank A DRAINING epoch 12 with granule 0x10_0003 PENDING; here the ring has no free slot, so that
the granule stays PENDING, and a write is staged. -/
def draining (w : WriteTxn) : State :=
  let s := withBanks (bankWith .draining 12 [pendingEntry 0x100003]) freeBank
  { s with rw := { s.rw with reserve := 64, filled := 64 }, up := { s.up with staging := some w } }

/-- W1 to 0x10_0003 is held OWN with the Hold Limit. -/
theorem test_held_own :
    (after (.acceptance .lastBeat) (draining (write9 0x40003000 16))).ce.holdQueue =
      [{ entry := 0, stream := { initiator := 9, otag := 2 }, reason := .own 0x100003 12 (.running 2000 0) }] := by decide +kernel
/-- W2 through window 12 is refused and waits for W1; W3 to a granule not listed is held BEHIND W1. -/
theorem test_held_behind :
    let s := after (.acceptance .lastBeat) (draining (write9 0x40003000 16))
    ((after (.acceptance .lastBeat) { s with up := { s.up with staging := some (write9 0x90000000 16) } }).up.tracker.map
        TrackerEntry.phase = [.held, .answered]) ∧
      ((after (.acceptance .lastBeat) { s with up := { s.up with staging := some (write9 0x40009000 16) } }).ce.holdQueue.map
        HoldEntry.reason = [.own 0x100003 12 (.running 2000 0), .behind]) := by decide +kernel
/-- The last line: W1's answer lets W2 and W3 leave with it, in order. -/
theorem test_stream_chain :
    (after (.responseOkay (responseTo 7 .write []))
      { draining (write9 0x40003000 16) with
        up := { portState := .accepting, staging := none, tracker :=
          [entryWith 0 .issued .write none, entryWith 1 .answered .write none,
            { entryWith 2 .answered .write none with outcome := some .okay }] }
        dp := { resetDownstreamPort with tags := [tagWith 7 3 (.passWrite 0)] } }).out.returned.map UpResponse.outcome =
      [.okay, .refused, .okay] := by decide +kernel

/-- The start of Table 7.5.1, E1 being entry 0, E2 entry 1, E3 entry 2, E4 entry 3. -/
def portResetSetting : State :=
  let s := withBanks (bankWith .draining 41 [{ pendingEntry 0x100003 with held := 1 }])
    { bankWith .opened 42 [] with settle := 2 }
  { s with
    rw := { s.rw with reserve := 64, filled := 64 }
    ce := { s.ce with holdQueue :=
      [{ entry := 1, stream := { initiator := 9, otag := 2 }, reason := .own 0x100003 41 (.running 2000 0) }] }
    up := { portState := .accepting, staging := some (write9 0x40003000 16), tracker :=
      [{ entryWith 0 .issued .write (some 42) with stream := { initiator := 10, otag := 0, direction := .write } },
        entryWith 1 .held .write (some 42), entryWith 2 .issued .read none, entryWith 3 .answered .write none] } }

theorem test_port_reset :
    let t := after .portRstNAssert portResetSetting
    t.up.tracker.map (fun e => (e.number, e.phase, e.delivery)) = [(0, .issued, .discard), (2, .issued, .discard)] ∧
      t.up.portState = .inReset ∧ t.up.staging = none ∧ t.ce.holdQueue = [] ∧ t.ju.bankB.settle = 1 ∧
      t.ju.bankB.portReset = true ∧ t.ju.bankA.portReset = false ∧ t.ju.bankA.dirty = [pendingEntry 0x100003] := by decide +kernel
theorem test_port_drain :
    (after .portRstNDeassert (after .portRstNAssert portResetSetting)).up.portState = .resetDrain := by decide +kernel

/-! ## Chapter 8: Table 8.7.1 -/

/-- Pass-through request number n. -/
def passOf (n : Nat) : Request := passRequest { entryWith n .issued .read none with data := [] }

/-- Copy read number k of the copy with sequence 0. -/
def readOf (k : Nat) : Request :=
  { source := .copyRead 0 k, address := 0x100003000 + k * 256, size := 256, data := [],
    strobes := List.replicate 256 true, exclusive := false, initiator := none, domain := none, window := none }

/-- The start of Table 8.7.1. -/
def grantSetting : State :=
  { guarded with dp := { resetDownstreamPort with
    copyShare := 2, passThrough := (List.range 5).map passOf, background := (List.range 4).map readOf } }

/-- The first four grants: P1, P2, B1, P3, with lowest FREE tags. -/
theorem test_grants_under_share :
    (after .grant (after .grant (after .grant (after .grant grantSetting)))).out.presented =
      [(0, passOf 0), (1, passOf 1), (2, readOf 0), (3, passOf 2)] := by decide +kernel
/-- The promotion empties the background queue and sets the counter to 0. -/
theorem test_promotion :
    let t := promoteReads 0 { grantSetting with dp := { grantSetting.dp with shareCounter := 1 } }
    t.dp.urgent = (List.range 4).map readOf ∧ t.dp.background = [] ∧ t.dp.shareCounter = 0 := by decide +kernel
/-- An urgent read goes before pass-through and leaves the counter; with pass-through empty, background sets it to 0. -/
theorem test_grant_classes :
    (after .grant { grantSetting with dp := { grantSetting.dp with urgent := [readOf 9], shareCounter := 1 } }).dp.shareCounter
        = 1 ∧
      (after .grant { grantSetting with dp := { grantSetting.dp with passThrough := [], shareCounter := 1 } }).dp.shareCounter
        = 0 := by decide +kernel

/-! ## Chapters 3, 5, 8 and 9: worked sequences -/

/-- Bank A CLOSING epoch 41 behind a held power warning, bank B OPEN with epoch 42 (Table 3.10.1). -/
def heldWarning : State :=
  let s := withBanks (bankWith .closing 41 []) { bankWith .opened 42 [pendingEntry 0x100032] with settle := 3 }
  { s with ec := { s.ec with powerCutPending := true } }

/-- The close of epoch 41 takes the held cut: EPOCH_CLOSED and POWER_CUT are raised. -/
theorem test_held_power_cut :
    let t := closeEpoch heldWarning
    t.ju.bankA = bankWith .opened 43 [] ∧ t.ju.bankB.state = .settling ∧ t.ju.bankB.power = true ∧ t.ju.bankB.settle = 3 ∧
      t.ec.powerCutPending = false ∧ t.au.pending = 0x81#8 := by decide +kernel

/-- Bank B DRAINING epoch 70 and bank A OPEN with epoch 71, as in Table 3.11.1 with fewer entries. -/
def abandonSetting : State :=
  withBanks (bankWith .opened 71 [pendingEntry 1]) (bankWith .draining 70
    [{ pendingEntry 2 with state := .copied }, pendingEntry 3])

theorem test_abandon :
    let t := after .abandon abandonSetting
    t.ju.bankA = freeBank ∧ t.ju.bankB.state = .closing ∧ t.ju.bankB.damage = some .abandon ∧
      t.ju.bankB.dirty.map DirtyEntry.state = [.copied, .skipped] ∧ t.ec.journal = .off ∧ t.au.pending = 0x01#8 := by
  decide +kernel

/-- The start of Table 5.10.1, bank A about to drain. -/
def ringSetting : State :=
  let s := withBanks (bankWith .draining 5 ((List.range 4).map fun n => pendingEntry (0x3000 + n))) (bankWith .opened 6 [])
  { s with rw := { s.rw with
    place := some { base := 0x130000000, capacity := 6 }, lowThreshold := 1, reserve := 4, filled := 4, release := 2,
    position := 4 } }

/-- Four copies start: slots 4 to 7 at positions 4, 5, 0 and 1, and the count goes below the threshold. -/
theorem test_copies_start :
    let t := startCopies ringSetting
    t.rw.reserve = 8 ∧ t.rw.slots.map Slot.position = [4, 5, 0, 1] ∧ t.rw.slots.map Slot.seq = [4, 5, 6, 7] ∧
      (raiseRingLow ringSetting t).au.pending = 0x20#8 := by decide +kernel

/-- RELEASE_SLOTS 5 and 1 of Table 5.10.1, with filled at 6 and the END record of epoch 5 pending. -/
theorem test_release_slots :
    let s := withBanks (bankWith .closing 5 []) freeBank
    let s := { s with rw := { s.rw with
      place := some { base := 0x130000000, capacity := 6 }, reserve := 8, filled := 6, release := 2, position := 2,
      pendingEnd := some 5 } }
    statusOf (after (.releaseSlots 5) s) = some .badCount ∧
      (after (.releaseSlots 1) s).rw.account.endSeq = some 8 ∧ (after (.releaseSlots 1) s).rw.pendingEnd = none ∧
      (after (.releaseSlots 1) s).rw.reserve = 9 := by decide +kernel

/-- Table 8.8.1: tag 17 of the last tagged write, its timer at the limit. -/
def expirySetting : State :=
  let s := withBanks freeBank { bankWith .settling 41 [pendingEntry 0x100032] with settle := 1 }
  { s with
    up := { s.up with tracker := [entryWith 0 .issued .write (some 41)] }
    dp := { s.dp with tags := [tagWith 17 250 (.passWrite 0)] } }

/-- The expiry, then the late response. -/
theorem test_expiry_then_late :
    let t := after (.responseTimerExpiry 17) expirySetting
    t.dp.tags.map Tag.state = [.expired] ∧ t.ju.bankB.state = .draining ∧ t.ju.bankB.settle = 0 ∧
      t.fq.records.map FaultRecord.kind = [.downstreamTimeout] ∧
      (after (.lateResponse .okay (responseTo 17 .write [])) t).fq.records.map FaultRecord.kind =
        [.downstreamTimeout, .lateResponse] ∧
      (after (.lateResponse .okay (responseTo 17 .write [])) t).dp.tags = [] := by decide +kernel

/-- The ERROR of a copy read damages the epoch with COPY_ERROR. -/
theorem test_copy_error :
    let t := startCopies (after (.responseTimerExpiry 17) expirySetting)
    let u := after (.responseError (responseTo 0 .read [])) (after .grant t)
    u.ju.bankB.state = .closing ∧ u.ju.bankB.damage = some .copyError ∧
      u.fq.records.map FaultRecord.kind = [.downstreamTimeout, .copyFailed] := by decide +kernel

/-- Table 9.7.1: two faults are queued, two lost, and READ_FAULT gives the lost count and clears it. -/
theorem test_fault_queue :
    let s := (List.range 10).foldl (fun s _ => reportFault .keyDenied {} s) { guarded with fq := { guarded.fq with nextSeq := 40 } }
    s.fq.records.length = 8 ∧ s.fq.lost = 2 ∧ s.fq.nextSeq = 50 ∧ s.au.pending = 0x18#8 ∧
      (after .readFault s).mp.answer.map (fun a => a.data.take 4) = some [2#8, 7#8, 0#8, 40#8] ∧
      (after .readFault s).fq.lost = 0 := by decide +kernel

/-! ## Witnesses

One theorem for each statement that has hypotheses: its conjuncts are the hypotheses of the statement, clause after clause, at
concrete values. A hypothesis that only names a value or a function by equations (`u = …`, `∀ u, fault u = …`) is met by that
value and is not repeated. Five small lemmas come first. -/

/-- What a window table holds is found below number 64. -/
theorem windows_of_check {wu : WindowUnit} {p : Nat → Window → Bool}
    (h : ((List.range 64).all fun n => (windowAt wu n).all (p n)) = true) : ∀ n w, windowAt wu n = some w → p n w = true := by
  intro n w hw
  simp only [List.all_eq_true, List.mem_range, Option.all_eq_true] at h
  exact h n (windowAt_lt hw) w hw

/-- No ACTIVE window. -/
theorem no_windows {wu : WindowUnit} (h : ((List.range 64).all fun n => (windowAt wu n).isNone) = true) :
    ∀ n, windowAt wu n = none := by
  intro n
  cases hw : windowAt wu n with
  | none => rfl
  | some w =>
    simp only [List.all_eq_true, List.mem_range] at h
    simpa [hw] using h n (windowAt_lt hw)

theorem not_overlaps {wu : WindowUnit} {n : Nat} {w : Window} (h : overlapsOther wu n w = false) : ¬ Overlaps wu n w :=
  fun ho => by simp [overlapsOther_iff.2 ho] at h

theorem not_ringConflict {place : Option RingPlace} {w : Window} (h : ringConflict place w = false) : ¬ RingConflict place w :=
  fun ho => by simp [ringConflict_iff.2 ho] at h

theorem not_fits {limit : Nat} {w : Window} (h : rangeFits limit w = false) : ¬ Fits limit w :=
  fun ho => by simp [rangeFits_iff.2 ho] at h

/-- RECORDING epoch 41 in bank B, bank A FREE. -/
def recording : State := withBanks freeBank (bankWith .opened 41 [pendingEntry 0x100032])

theorem test_witness_StepTakesTheFrontCommand :
    (setPending [.grant, .cut] guarded).pending = .grant :: [.cut] ∧ guarded.pending = [] := by decide +kernel

theorem test_witness_ManagementEncodingRoundTrip :
    (Instr.setTimeouts 65535 1).wf = true ∧
      encode (.setTimeouts 65535 1) = some (0x04#8, [0xFF#8, 0xFF#8, 0x00#8, 0x01#8]) ∧
      (Instr.unconfigureRing 0xFFFFFFFFFFFF).wf = true ∧ (encode (.unconfigureRing 0xFFFFFFFFFFFF)).isSome = true ∧
      Instr.cut.wf = true ∧ encode .cut = some (0x21#8, []) := by decide +kernel

theorem test_witness_RequestFrameCarriesItsCommand :
    (Instr.setTimeouts 65535 1).wf = true ∧
      encode (.setTimeouts 65535 1) = some (0x04#8, [0xFF#8, 0xFF#8, 0x00#8, 0x01#8]) ∧
      cutSetting.pins.rstN = true ∧ cutSetting.mp.exchange = .receiving ∧ cutSetting.mp.received = [] := by decide +kernel

theorem test_witness_RequestFrameJudged :
    cutSetting.pins.rstN = true ∧ guarded.mp.exchange ≠ .receiving ∧
      exec (.requestFrame [0xA5#8]) cutSetting = .next (after (.requestFrame [0xA5#8]) cutSetting) ∧
      cutSetting.mp.exchange = .receiving ∧ cutSetting.mp.received = [] ∧
      (List.replicate 60 0#8 : List Byte).length ≤ 60 ∧ (0xA4#8 : Byte) ≠ 0xA5#8 ∧ 60 < (61#8 : Byte).toNat ∧
      (0#8 : Byte) ≠ crc8 (0xA5#8 :: 0x21#8 :: 0x37#8 :: BitVec.ofNat 8 0 :: []) ∧
      64 < 5 + (List.replicate 60 0#8 : List Byte).length := by
  refine ⟨rfl, ?_, rfl, ?_⟩ <;> decide +kernel

/-- A frame of a code outside the command set, one of a wrong length, and CUT's. -/
theorem test_witness_ResponsesComposed :
    let waiting : Frame → State := fun f =>
      { cutSetting with mp := { cutSetting.mp with exchange := .waiting, awaiting := some f } }
    let bad : Frame := { code := 0x7F#8, tag := 1#8, params := [] }
    let long : Frame := { code := 0x21#8, tag := 1#8, params := [0#8] }
    let cut : Frame := { code := 0x21#8, tag := 1#8, params := [] }
    (waiting bad).pins.rstN = true ∧ (waiting bad).mp.awaiting = some bad ∧ (waiting bad).mp.exchange = .waiting ∧
      paramLength bad.code = none ∧ paramLength long.code = some 0 ∧ 0 ≠ long.params.length ∧
      paramLength cut.code = some cut.params.length ∧ cutSetting.mp.awaiting = none ∧ cut.command ≠ some .abandon ∧
      cut.command = some .cut ∧ (waiting cut).mp.exchange = .waiting ∧ (after .csNRise (waiting cut)).mp.awaiting = some cut ∧
      (after .csNRise { waiting cut with pins := { rstN := true, portRstN := true, pwrwarn := false, csN := false } }).mp.exchange ≠
        .waiting := by decide +kernel

theorem test_witness_ChipSelect :
    guarded.pins.csN = true ∧ guarded.pins.rstN = true ∧ (after .rstNAssert guarded).pins.csN = true ∧
      (after .rstNAssert guarded).pins.rstN = false ∧ (after .csNFall guarded).pins.csN = false ∧
      (Frame.refusal { code := 0x21#8, tag := 1#8, params := [] }) = none := by decide +kernel

theorem test_witness_ResponseShiftsOut :
    let responding : State :=
      { cutSetting with mp := { cutSetting.mp with exchange := .responding, response := [0x5A#8, 1#8] } }
    responding.pins.rstN = true ∧ responding.mp.exchange = .responding ∧ responding.mp.response = 0x5A#8 :: [1#8] ∧
      1 < (0x5A#8 :: [1#8] : List Byte).length ∧ cutSetting.mp.exchange = .receiving ∧ guarded.mp.exchange = .idle := by
  decide +kernel

theorem test_witness_SetModeRule :
    guarded.pins.rstN = true ∧ 1 < 2 ∧ guarded.ec.journal = .off ∧ guarded.ju.bankA.state = .free ∧
      guarded.ju.bankB.state = .free ∧
      ¬ (recording.ec.journal = .off ∧ recording.ju.bankA.state = .free ∧ recording.ju.bankB.state = .free) ∧
      1 = guarded.wu.mode.code ∧ 0 = State.reset.wu.mode.code ∧ JournalInv guarded ∧ JournalInv State.reset := by
  refine ⟨?_, ?_, ?_, ?_, ?_, ?_, ?_, ?_, journalInv_of_check ?_, journalInv_of_check ?_⟩ <;> decide +kernel

theorem test_witness_DomainMapRule :
    guarded.pins.rstN = true ∧ 63 < 64 ∧ (15 < 16 ∧ 16 ≠ 255) ∧ 63 ≤ 63 ∧ 15 ≤ 15 := by decide +kernel

theorem test_witness_MemoryLimitRule :
    guarded.pins.rstN = true ∧ 2 ^ 28 < 2 ^ 28 + 1 ∧ windowAt guarded.wu 5 = some window5 ∧ guarded.rw.place ≠ none ∧
      (∀ n, windowAt State.reset.wu n = none) ∧ State.reset.rw.place = none ∧
      exec .portRstNAssert guarded = .next (after .portRstNAssert guarded) ∧
      exec .rstNAssert guarded = .next (after .rstNAssert guarded) :=
  ⟨rfl, by decide, by decide +kernel, by decide +kernel, no_windows (by decide +kernel), rfl, rfl, rfl⟩

/-- A window of Table 1.6.2: 7, as in its first two steps, for a domain. -/
def window7 (domain : Nat) : Window :=
  { domain := domain, anchor := 0x40080000, growth := .up, extent := 16, memBase := 0x110000000, key := .readWrite,
    journaled := true }

/-- Window 9 of step 5 of Table 1.6.2. -/
def window9 : Window :=
  { domain := 3, anchor := 0x60000000, growth := .up, extent := 65, memBase := 0x130000000, key := .readWrite,
    journaled := false }

/-- Window 8 of step 4 of Table 1.6.2, and the same one that just fits. -/
def window8 (extent : Nat) : Window :=
  { domain := 2, anchor := 0xFFFFFF0000, growth := .up, extent := extent, memBase := 0x111000000, key := .readWrite,
    journaled := false }

theorem test_witness_InstallWindowRule :
    guarded.pins.rstN = true ∧ (63 < 64 ∧ 15 < 16 ∧ 4095 % 4096 ≠ 0 ∧ 2 ^ 40 < 2 ^ 40 + 4096 ∧ 1 < 2 ∧ 65536 < 65537) ∧
      WindowFields (window8 65536) ∧ windowAt guarded.wu 5 ≠ none ∧ windowAt guarded.wu 63 = none ∧
      ¬ Fits guarded.wu.memoryLimit (window8 17) ∧
      (Fits guarded.wu.memoryLimit (window7 2) ∧ Overlaps guarded.wu 63 (window7 2)) ∧
      (Fits guarded.wu.memoryLimit window9 ∧ ¬ Overlaps guarded.wu 63 window9 ∧ RingConflict guarded.rw.place window9) ∧
      (Fits guarded.wu.memoryLimit (window8 16) ∧ ¬ Overlaps guarded.wu 63 (window8 16) ∧
        ¬ RingConflict guarded.rw.place (window8 16)) :=
  ⟨rfl, by decide, by unfold WindowFields; decide, by decide +kernel, by decide +kernel, not_fits (by decide +kernel),
    ⟨rangeFits_iff.1 (by decide +kernel), overlapsOther_iff.1 (by decide +kernel)⟩,
    ⟨rangeFits_iff.1 (by decide +kernel), not_overlaps (by decide +kernel), ringConflict_iff.1 (by decide +kernel)⟩,
    ⟨rangeFits_iff.1 (by decide +kernel), not_overlaps (by decide +kernel), not_ringConflict (by decide +kernel)⟩⟩

/-- `guarded` with another Memory Limit, another ring place, and a window 7 that begins where window 5 ends. -/
def crowded (limit base : Nat) : State :=
  { guarded with
    wu := { tables with
      memoryLimit := limit
      windows := tables.windows.setIfInBounds 7 (some { window7 2 with anchor := 0x40100000 }) }
    rw := { resetRingWriter with place := some { base := base, capacity := 64 } } }

/-- Window 5 at extents 257, one granule more, and 65536. -/
theorem test_witness_ExtendWindowRule :
    guarded.pins.rstN = true ∧ (63 < 64 ∧ windowAt guarded.wu 7 = none ∧ 65536 < 65537) ∧
      windowAt guarded.wu 5 = some window5 ∧ windowAt (crowded 0x100100 0x130000000).wu 5 = some window5 ∧
      ¬ Fits (crowded 0x100100 0x130000000).wu.memoryLimit { window5 with extent := 257 } ∧
      (Fits (crowded 1310720 0x130000000).wu.memoryLimit { window5 with extent := 257 } ∧
        Overlaps (crowded 1310720 0x130000000).wu 5 { window5 with extent := 257 }) ∧
      (Fits guarded.wu.memoryLimit { window5 with extent := 257 } ∧ ¬ Overlaps guarded.wu 5 { window5 with extent := 257 } ∧
        RingConflict (crowded 1310720 0x100100000).rw.place { window5 with extent := 257 }) ∧
      (Fits guarded.wu.memoryLimit { window5 with extent := 65536 } ∧
        ¬ Overlaps guarded.wu 5 { window5 with extent := 65536 } ∧
        ¬ RingConflict guarded.rw.place { window5 with extent := 65536 }) ∧
      (window5.contains 0x400FFFFF = true ∧ ({ window5 with extent := 65536 } : Window).contains 0x400FFFFF = true) ∧
      WindowInv guarded ∧ 256 = window5.extent :=
  ⟨rfl, by decide +kernel, by decide +kernel, by decide +kernel, not_fits (by decide +kernel),
    ⟨rangeFits_iff.1 (by decide +kernel), overlapsOther_iff.1 (by decide +kernel)⟩,
    ⟨rangeFits_iff.1 (by decide +kernel), not_overlaps (by decide +kernel), ringConflict_iff.1 (by decide +kernel)⟩,
    ⟨rangeFits_iff.1 (by decide +kernel), not_overlaps (by decide +kernel), not_ringConflict (by decide +kernel)⟩,
    by decide +kernel, windowInv_of_check (by decide +kernel), rfl⟩

theorem test_witness_SetKeyRule :
    guarded.pins.rstN = true ∧ (63 < 64 ∧ windowAt guarded.wu 7 = none ∧ 2 < 3) ∧ windowAt guarded.wu 12 = some window12 ∧
      2 = Key.code .readWrite ∧ RingConflict (crowded 1310720 0x100003FC0).rw.place { window12 with key := .readWrite } ∧
      ¬ RingConflict (crowded 1310720 0x100004000).rw.place { window12 with key := .readWrite } :=
  ⟨rfl, by decide +kernel, by decide +kernel, rfl, ringConflict_iff.1 (by decide +kernel),
    not_ringConflict (by decide +kernel)⟩

theorem test_witness_RemoveAndReadWindow :
    guarded.pins.rstN = true ∧ 63 < 64 ∧ 63 ≤ 63 ∧ windowAt guarded.wu 63 = none ∧ windowAt guarded.wu 5 = some window5 := by
  decide +kernel

theorem test_witness_LimitsAndShareRule :
    guarded.pins.rstN = true ∧ 65535 < 65536 ∧ 1 ≤ 65535 ∧ 65535 ≤ 65535 ∧ 1 ≤ 1 ∧ 255 < 256 ∧ 255 ≤ 255 := by decide +kernel

/-- The last address of the host space; 257 bytes; a granule passed by one byte; the last byte of window 5. -/
theorem test_witness_MalformedCheck :
    (256 < 257 ∧ 4096 < 0x40000FFF % 4096 + 2) ∧
      (¬ ((txn9 (2 ^ 40 - 256) 256).length = 0 ∨ 256 < (txn9 (2 ^ 40 - 256) 256).length ∨
        4096 < (txn9 (2 ^ 40 - 256) 256).host % 4096 + (txn9 (2 ^ 40 - 256) 256).length ∨
        (txn9 (2 ^ 40 - 256) 256).beats ≠ (txn9 (2 ^ 40 - 256) 256).length) ∧ (txn9 (2 ^ 40 - 256) 256).host < 2 ^ 40) ∧
      State.reset.wu.mode = .transparent ∧ WindowInv guarded ∧
      (lookup guarded.wu .read (txn9 0x400FFFFF 1)).memory = some 0x1000FFFFF :=
  ⟨by decide, by decide, rfl, windowInv_of_check (by decide +kernel), by decide +kernel⟩

/-- Tables 1.4.3, with the last address of window 5 and the first above it. -/
theorem test_witness_GuardedLookup :
    guarded.wu.mode = .guarded ∧ WindowInv guarded ∧ domainOf guarded.wu 20 = none ∧ domainOf guarded.wu 9 = some 2 ∧
      (∀ n w, windowAt guarded.wu n = some w → w.domain = 2 → ¬ (w.hostLow ≤ 0x40100000 ∧ 0x40100000 < w.hostEnd)) ∧
      windowAt guarded.wu 5 = some window5 ∧ window5.hostLow ≤ 0x40000000 ∧ 0x400FFFFF < window5.hostEnd ∧
      (window5.key = .readWrite ∧ window12.key = .read) ∧ 0x400FFFFF % 4096 + 1 ≤ 4096 :=
  ⟨rfl, windowInv_of_check (by decide +kernel), by decide +kernel, by decide +kernel,
    fun n w hw _ hc => by
      have := windows_of_check (wu := tables) (p := fun _ w => decide (¬ (w.hostLow ≤ 0x40100000 ∧ 0x40100000 < w.hostEnd)))
        (by decide +kernel) n w hw
      exact (of_decide_eq_true this) hc,
    by decide +kernel, by decide +kernel, by decide +kernel, by decide +kernel, by decide⟩

theorem test_witness_ReadStatusAndRing : guarded.pins.rstN = true := rfl

theorem test_witness_ReadJournal :
    recording.pins.rstN = true ∧ (1 < 2 ∧ 4095 < 4096 ∧ 63 < 64) ∧ 2 ^ 28 ≤ 2 ^ 28 ∧ 2 ^ 28 - 1 < 2 ^ 28 ∧
      (∀ d ∈ (bank recording .b).dirty, d.granule ≠ 2 ^ 28 - 1) ∧
      ((bank recording .b).dirty[0]? = some (pendingEntry 0x100032) ∧ (pendingEntry 0x100032).granule = 0x100032) := by
  decide +kernel

theorem test_witness_ReadEpochRule :
    logSetting.pins.rstN = true ∧ (15 < 16 ∧ 63 < 64) ∧ startSetting.ec.log.length ≤ 8 ∧
      logSetting.ec.log[15]? = some (recordOf 100) := by decide +kernel

theorem test_witness_JournalStartRule :
    guarded.pins.rstN = true ∧ State.reset.wu.mode = .transparent ∧ guarded.wu.mode = .guarded ∧
      { guarded with rw := resetRingWriter }.rw.place = none ∧ guarded.rw.place ≠ none ∧
      (heldWarning.ju.bankA.state ≠ .free ∧ heldWarning.ju.bankB.state ≠ .free) ∧
      (recording.ju.bankA.state = .free ∧ recording.ec.journal = .recording) ∧
      (guarded.ec.journal = .off ∧ 0 < { guarded.ec with transparentWrites := 1 }.transparentWrites ∧
        guarded.ec.transparentWrites = 0) ∧
      (startSetting.ju.bankA.epoch = some 58 ∧ 58 ≤ 58) ∧
      ((∀ e, startSetting.ju.bankA.epoch = some e ∨ startSetting.ju.bankB.epoch = some e → e < 59) ∧
        ∀ r ∈ startSetting.ec.log, r.epoch < 59) := by
  refine ⟨rfl, rfl, rfl, rfl, by decide +kernel, by decide +kernel, by decide +kernel, by decide +kernel, by decide +kernel,
    ?_, by decide +kernel⟩
  rintro e (h | h)
  · cases h; decide
  · cases h

/-- The OPEN epoch one below the last one, and the last one. -/
theorem test_witness_CutAndStopRule :
    guarded.pins.rstN = true ∧ guarded.ec.journal = .off ∧ recording.ec.journal = .recording ∧
      ((bank recording .b).state = .opened ∧ (bank recording .b).epoch = some 41 ∧ (bank recording .a).state = .free) ∧
      ((bank heldWarning .b).state = .opened ∧ (bank heldWarning .a).state ≠ .free) ∧
      ((bank (withBanks (bankWith .opened 4294967295 []) freeBank) .a).epoch = some 4294967295) ∧ 4294967294 < 4294967295 := by
  decide +kernel

theorem test_witness_AcceptedCut :
    ((bank recording .b).state = .opened ∧ (bank recording .b).epoch = some 41 ∧ (bank recording .b).settle = 0) ∧
      ((bank heldWarning .b).state = .opened ∧ (bank heldWarning .b).epoch = some 42 ∧ 0 < (bank heldWarning .b).settle) := by
  decide +kernel

theorem test_witness_PowerWarning :
    guarded.pins.rstN = true ∧ (after .pwrwarnAssert guarded).pins.pwrwarn = true ∧ guarded.pins.pwrwarn = false ∧
      guarded.ec.journal = .off ∧
      (heldWarning.pins.pwrwarn = false ∧ heldWarning.ec.journal = .recording ∧ (bank heldWarning .b).state = .opened ∧
        (bank heldWarning .b).epoch = some 42 ∧ heldWarning.ec.powerCutPending = true) ∧
      (recording.ec.journal = .recording ∧ recording.ec.powerCutPending = false ∧ (bank recording .a).state = .free ∧
        (bank recording .b).state = .opened ∧ (bank recording .b).epoch = some 41) ∧
      (abandonSetting.ec.powerCutPending = false ∧ (bank abandonSetting .a).state = .opened ∧
        (bank abandonSetting .b).state.isCut = true) ∧
      (withBanks (bankWith .opened 4294967295 []) freeBank).ec.powerCutPending = false := by decide +kernel

/-- The held write of a DRAINING bank goes to the arbiter at an ABANDON, and only EPOCH_CLOSED of the OPEN bank is raised (R60,
R90). -/
theorem test_abandon_releases :
    let t := after .abandon portResetSetting
    t.dp.passThrough.map Request.source = [.passWrite 1] ∧
      t.up.tracker.map TrackerEntry.phase = [.issued, .issued, .issued, .answered] ∧
      t.ju.bankA.dirty = [{ pendingEntry 0x100003 with state := .skipped }] ∧ t.ju.bankB = freeBank ∧
      t.au.pending = 0x01#8 := by decide +kernel

/-- An OPEN bank beside a DRAINING one with a held write, beside a CLOSING one and alone; no bank OPEN or cut. -/
theorem test_witness_AbandonRule :
    guarded.pins.rstN = true ∧ JournalInv guarded ∧ JournalInv abandonSetting ∧ JournalInv heldWarning ∧
      ((bank abandonSetting .a).state = .opened ∧ (bank abandonSetting .b).state = .draining) ∧
      (bank heldWarning .a).state = .closing ∧
      (JournalInv recording ∧ (bank recording .a).state = .free ∧ (bank recording .b).state = .opened) ∧
      (JournalInv portResetSetting ∧ (bank portResetSetting .a).state = .draining ∧ portResetSetting.ce.holdQueue ≠ []) ∧
      (guarded.ec.journal = .off ∧ guarded.ju.bankA.state = .free ∧ guarded.ju.bankB.state = .free) ∧
      (∀ i, (bank guarded i).state ≠ .opened ∧ (bank guarded i).state.isCut = false) :=
  ⟨rfl, journalInv_of_check (by decide +kernel), journalInv_of_check (by decide +kernel),
    journalInv_of_check (by decide +kernel), by decide +kernel, by decide +kernel,
    ⟨journalInv_of_check (by decide +kernel), by decide +kernel, by decide +kernel⟩,
    ⟨journalInv_of_check (by decide +kernel), by decide +kernel, by decide +kernel⟩, by decide +kernel,
    by rintro (_ | _) <;> decide +kernel⟩

theorem test_witness_EpochClose :
    (JournalInv logSetting ∧ (bank logSetting .b).state = .closing ∧ (bank logSetting .b).epoch = some 116 ∧
        (bank logSetting .b).damage = none ∧ (bank logSetting .b).spill ≠ [] ∧ logSetting.ec.powerCutPending = false) ∧
      (JournalInv heldWarning ∧ (bank heldWarning .a).state = .closing ∧ (bank heldWarning .a).epoch = some 41 ∧
        heldWarning.ec.powerCutPending = true ∧ (bank heldWarning .b).epoch = some 42) ∧
      JournalInv { withBanks (bankWith .closing 41 []) (bankWith .opened 4294967295 []) with ec := heldWarning.ec } :=
  ⟨⟨journalInv_of_check (by decide +kernel), by decide +kernel⟩, ⟨journalInv_of_check (by decide +kernel), by decide +kernel⟩,
    journalInv_of_check (by decide +kernel)⟩

/-! ### Chapters 7 and 8 -/

/-- An ACCEPTING port with `write9 0x40003000 16` staged, no bank cut. -/
def staged : State := { guarded with up := { guarded.up with staging := some (write9 0x40003000 16) } }

/-- 48 outstanding reads. -/
def fullTracker : State :=
  { guarded with up := { guarded.up with tracker := (List.range 48).map fun n => entryWith n .issued .read none } }

/-- 8 held writes. -/
def fullQueue : State :=
  { staged with ce := { staged.ce with holdQueue := (List.range 8).map fun n =>
    { entry := n, stream := { initiator := 9, otag := 2 }, reason := .own 0x100003 12 (.running 2000 0) } } }

theorem test_witness_TakenOrLeftWaiting :
    guarded.pins.rstN = true ∧ (guarded.up.portState = .accepting ∧ guarded.up.staging = none) ∧ staged.up.staging ≠ none ∧
      (CapacityInv guarded ∧ freeEntry guarded = some 0) ∧ (CapacityInv fullTracker ∧ fullTracker.up.tracker.length = 48) ∧
      (after .portRstNAssert guarded).up.portState ≠ .accepting ∧ 8 ≤ fullQueue.ce.holdQueue.length :=
  ⟨rfl, by decide +kernel, by decide +kernel, ⟨capacityInv_of_check (by decide +kernel), by decide +kernel⟩,
    ⟨capacityInv_of_check (by decide +kernel), by decide +kernel⟩, by decide +kernel, by decide +kernel⟩

/-- Entry 0 of an empty tracker, and the last FREE entry of one that holds 47. -/
theorem test_witness_ReadAccepted :
    Accepts (.read (txn9 0x40032A40 64)) .read (txn9 0x40032A40 64) [] [] 0 guarded guarded ∧
      (lookup guarded.wu .read (txn9 0x40032A40 64)).refusal = none ∧
      (lookup guarded.wu .read (txn9 0x40032A40 64)).memory = some 0x100032A40 ∧
      freeEntry { fullTracker with up := { fullTracker.up with tracker := fullTracker.up.tracker.take 47 } } = some 47 :=
  ⟨⟨rfl, rfl, by decide +kernel, rfl, rfl, rfl, rfl, rfl⟩, by decide +kernel, by decide +kernel, by decide +kernel⟩

/-- A write staged in TRANSPARENT mode. -/
def stagedTransparent : State := { State.reset with up := staged.up }

theorem test_witness_WriteAccepted :
    Accepts .lastBeat .write (txn9 0x40003000 16) (List.replicate 16 0x11#8) (List.replicate 16 true) 0 staged guarded ∧
      (lookup staged.wu .write (txn9 0x40003000 16)).refusal = none ∧
      (lookup staged.wu .write (txn9 0x40003000 16)).memory = some 0x100003000 ∧ staged.wu.mode = .guarded ∧
      Accepts .lastBeat .write (txn9 0x40003000 16) (List.replicate 16 0x11#8) (List.replicate 16 true) 0 stagedTransparent
        State.reset ∧
      (lookup stagedTransparent.wu .write (txn9 0x40003000 16)).memory = some 0x40003000 ∧
      stagedTransparent.wu.mode = .transparent :=
  ⟨⟨rfl, rfl, by decide +kernel, rfl, rfl, by decide +kernel, rfl⟩, by decide +kernel, by decide +kernel, rfl,
    ⟨rfl, rfl, by decide +kernel, rfl, rfl, by decide +kernel, rfl⟩, by decide +kernel, rfl⟩

/-- A read of 257 bytes; the stream empty, and behind an ISSUED read of its stream. -/
theorem test_witness_TransactionRefused :
    Accepts (.read (txn9 0x40000000 257)) .read (txn9 0x40000000 257) [] [] 0 guarded guarded ∧
      (lookup guarded.wu .read (txn9 0x40000000 257)).refusal = some .malformed ∧ 256 < (txn9 0x40000000 257).length ∧
      (1 ≤ (txn9 0x40100000 256).length ∧ (txn9 0x40100000 256).length ≤ 256) ∧
      (∀ x ∈ guarded.up.tracker, x.stream ≠ { initiator := 9, otag := 2, direction := .read }) ∧
      ((portResetSetting.up.tracker.filter fun x => x.stream = { initiator := 9, otag := 2, direction := .read }) =
        entryWith 2 .issued .read none :: [] ∧ (entryWith 2 .issued .read none).phase ≠ .answered) :=
  ⟨⟨rfl, rfl, by decide +kernel, rfl, rfl, rfl, rfl, rfl⟩, by decide +kernel, by decide +kernel, by decide +kernel,
    by decide +kernel, by decide +kernel⟩

/-- Two answered writes before one that is not, in one stream. -/
theorem test_witness_ReturnInStreamOrder :
    let leaving := [entryWith 3 .answered .write none, entryWith 0 .answered .write none]
    let rest := [entryWith 1 .issued .write none]
    let s : State := { guarded with up := { guarded.up with tracker := leaving ++ entryWith 2 .issued .read none :: rest } }
    (s.up.tracker.map TrackerEntry.number).Nodup ∧
      (s.up.tracker.filter fun e => e.stream = { initiator := 9, otag := 2, direction := .write }) = leaving ++ rest ∧
      (∀ e ∈ leaving, e.phase = .answered) ∧ (∀ e ∈ rest.head?, e.phase ≠ .answered) := by decide +kernel

/-- A bank with 4096 entries, its spill list empty or with one entry. -/
def fullBank (spill : List SpillEntry) : Bank :=
  { bankWith .opened 41 ((List.range 4096).map pendingEntry) with spill := spill }

theorem fullBank_length (spill : List SpillEntry) : (fullBank spill).dirty.length = 4096 := by
  simp [fullBank, bankWith]

theorem fullBank_fresh (spill : List SpillEntry) : ∀ d ∈ (fullBank spill).dirty, d.granule ≠ 4096 := by
  simp only [fullBank, bankWith, pendingEntry, List.mem_map, List.mem_range]
  rintro d ⟨n, hn, rfl⟩
  exact Nat.ne_of_lt hn

theorem journalInv_fullBank (spill : List SpillEntry) : JournalInv (withBanks freeBank (fullBank spill)) := by
  refine ⟨⟨fun _ => rfl, fun h => absurd rfl h⟩, ⟨fun h => ?_, fun _ => ⟨41, rfl, by decide, by decide⟩⟩, fun h => ?_, fun h => ?_,
    ⟨fun _ => .inr rfl, fun _ => rfl⟩, fun e h => ?_, fun h => ?_, fun h => ?_⟩
  · exact absurd h (by simp [withBanks, fullBank, bankWith])
  · exact absurd h.1 (by simp [withBanks, freeBank])
  · exact absurd h.1 (by simp [withBanks, freeBank, BankState.isCut])
  · exact absurd h (by simp [withBanks, freeBank])
  · exact absurd h (by simp [withBanks, guarded, State.reset, powerOn])
  · exact absurd h (by simp [withBanks, guarded, tables])

/-- A listed granule, a new one, and granule 4096 at a full list, through a window without and with a spill entry. -/
theorem test_witness_TagAndMark :
    (JournalInv guarded ∧ guarded.ec.journal = .off) ∧
      (lookup tables .write (txn9 0x90000000 16)).journaled = false ∧
      (JournalInv recording ∧ recording.ec.journal = .recording ∧ (bank recording .b).state = .opened) ∧
      ((lookup tables .write (txn9 0x40003000 16)).journaled = true ∧
        (lookup tables .write (txn9 0x40003000 16)).window = some 5) ∧
      (∃ d ∈ (bank recording .b).dirty, d.granule = 0x100032) ∧
      ((∀ d ∈ (bank recording .b).dirty, d.granule ≠ 0x100003) ∧ (bank recording .b).dirty.length < 4096) ∧
      (∀ spill, JournalInv (withBanks freeBank (fullBank spill)) ∧
        (∀ d ∈ (fullBank spill).dirty, d.granule ≠ 4096) ∧ 4096 ≤ (fullBank spill).dirty.length) ∧
      (fullBank []).spill = [] ∧
      ((fullBank [{ window := 5, low := 1, high := 1 }]).spill = [] ++ { window := 5, low := 1, high := 1 } :: [] ∧
        ((fullBank [{ window := 5, low := 1, high := 1 }]).spill.map SpillEntry.window).Nodup ∧
        (fullBank [{ window := 5, low := 1, high := 1 }]).spill ≠ []) :=
  ⟨⟨journalInv_of_check (by decide +kernel), rfl⟩, by decide +kernel, ⟨journalInv_of_check (by decide +kernel), rfl, rfl⟩,
    by decide +kernel, by decide +kernel, by decide +kernel,
    fun spill => ⟨journalInv_fullBank spill, fullBank_fresh spill, Nat.le_of_eq (fullBank_length spill).symm⟩,
    rfl, rfl, by decide, by decide⟩

/-- The copy of an entry. -/
def copyWith (granule epoch index : Nat) (seq : Seq) (cls : CopyClass) : CopyOp :=
  { granule := granule, epoch := epoch, index := index, seq := seq, urgent := decide (cls = .urgent), cls := cls, resolved := 0,
    failed := 0, abandoned := false, data := List.replicate 16 [] }

/-- Bank A DRAINING epoch 12 with one entry in a state, that entry's copy of a class when it is COPYING, entry 0 of the
tracker just accepted. -/
def holdSetting (st : EntryState) (cls : CopyClass) : State :=
  let s := withBanks (bankWith .draining 12 [{ pendingEntry 0x100003 with state := st }]) freeBank
  { s with
    ce := { s.ce with copies := if st = .copying then [copyWith 0x100003 12 0 0 cls] else [] }
    up := { s.up with tracker := [entryWith 0 .lookupDone .write none] }
    dp := { s.dp with background := if cls = .background then [readOf 15] else [] } }

/-- `holdSetting` with a background copy all of whose reads are granted. -/
def grantedCopy : State :=
  { holdSetting .copying .background with dp := { (holdSetting .copying .background).dp with background := [] } }

/-- A promotion changes no copy with every read granted (R84). -/
theorem test_promotion_all_granted : promoteCopy 0x100003 12 grantedCopy = grantedCopy := by decide +kernel

/-- A background copy with a read that waits, and one with none. -/
theorem test_witness_HoldCheckRule :
    (∀ st cls, JournalInv (holdSetting st cls) ∧ DirtyInv (holdSetting st cls)) ∧
      ((bank (holdSetting .pending .urgent) .a).state = .draining ∧ (bank (holdSetting .pending .urgent) .a).epoch = some 12 ∧
        pendingEntry 0x100003 ∈ (bank (holdSetting .pending .urgent) .a).dirty) ∧
      (∀ cls, ({ pendingEntry 0x100003 with state := .copying } ∈ (bank (holdSetting .copying cls) .a).dirty) ∧
        copyWith 0x100003 12 0 0 cls ∈ (holdSetting .copying cls).ce.copies ∧
        (∀ x ∈ (holdSetting .copying cls).ce.copies, x = copyWith 0x100003 12 0 0 cls)) ∧
      ((holdSetting .copying .background).dp.background.filter (Request.isReadOf 0) ≠ [] ∧
        grantedCopy.dp.background.filter (Request.isReadOf 0) = [] ∧ JournalInv grantedCopy ∧ DirtyInv grantedCopy) ∧
      ((∀ i, (bank (holdSetting .copied .urgent) i).state = .settling ∨ (bank (holdSetting .copied .urgent) i).state = .draining →
        ∀ d ∈ (bank (holdSetting .copied .urgent) i).dirty, d.granule = 0x100003 → d.state = .copied ∨ d.state = .skipped) ∧
        (∀ h ∈ (holdSetting .copied .urgent).ce.holdQueue, h.stream ≠ { initiator := 9, otag := 2 }) ∧
        findEntry 0 (holdSetting .copied .urgent) = some (entryWith 0 .lookupDone .write none)) ∧
      (∃ h ∈ fullQueue.ce.holdQueue, h.stream = { initiator := 9, otag := 2 }) := by
  refine ⟨?_, by decide +kernel, ?_, ⟨by decide +kernel, by decide +kernel, journalInv_of_check (by decide +kernel),
    dirtyInv_of_check (by decide +kernel)⟩, ⟨?_, by decide +kernel, by decide +kernel⟩, by decide +kernel⟩
  · rintro (_ | _ | _ | _) (_ | _) <;> exact ⟨journalInv_of_check (by decide +kernel), dirtyInv_of_check (by decide +kernel)⟩
  · rintro (_ | _) <;> decide +kernel
  · rintro (_ | _) <;> decide +kernel

/-- An entry that is ready behind no one, and one of a stream that is kept. -/
theorem test_witness_ReleaseScanRule :
    let own : HoldEntry := { entry := 0, stream := { initiator := 9, otag := 2 }, reason := .own 0x100003 12 (.running 2000 0) }
    let behind : HoldEntry := { entry := 1, stream := { initiator := 9, otag := 2 }, reason := .behind }
    let ready : HoldEntry → Bool := fun h => decide (h.reason = .behind)
    scanHolds ready [] [own] = ([own], []) ∧ ready behind = true ∧ (∃ x ∈ [own], x.stream = behind.stream) ∧
      ready own = false ∧ scanHolds ready [] [] = ([], []) ∧ (∀ x ∈ ([] : List HoldEntry), x.stream ≠ behind.stream) ∧
      scanHolds (granuleResolved fullQueue) [] guarded.ce.holdQueue = ([], []) := by decide +kernel

/-- Bank B SETTLING epoch 41 with a list, a settle count of n, one write of its epoch HELD, which the reset discards. -/
def heldSettling (n : Nat) (dirty : List DirtyEntry) : State :=
  let s := withBanks (bankWith .opened 42 []) { bankWith .settling 41 dirty with settle := n }
  { s with
    ce := { s.ce with holdQueue := dirty.map fun d =>
      { entry := 1, stream := { initiator := 9, otag := 2 }, reason := .own d.granule 41 (.running 2000 0) } }
    up := { s.up with tracker := [entryWith 1 .held .write (some 41)] } }

/-- The states of bank B after a port reset: SETTLING with a count of 1, CLOSING with nothing listed, DRAINING (R29, R30, R48). -/
theorem test_port_reset_settles :
    (after .portRstNAssert (heldSettling 2 [pendingEntry 0x100032])).ju.bankB.settle = 1 ∧
      (after .portRstNAssert (heldSettling 2 [pendingEntry 0x100032])).ju.bankB.state = .settling ∧
      (after .portRstNAssert (heldSettling 1 [])).ju.bankB.state = .closing ∧
      (after .portRstNAssert (heldSettling 1 [pendingEntry 0x100032])).ju.bankB.state = .draining := by decide +kernel

/-- No write discarded, fewer than the count, and as many, with an empty list and with PENDING entries. -/
theorem test_witness_PortResetRule :
    (after .portRstNAssert guarded).pins.portRstN = false ∧ guarded.pins.portRstN = true ∧
      ((after .rstNAssert guarded).pins.rstN = false ∧ (after .rstNAssert guarded).pins.portRstN = true) ∧
      ((after .portRstNAssert (after .rstNAssert guarded)).pins.portRstN = false) ∧ guarded.pins.rstN = true ∧
      (JournalInv recording ∧ HoldInv recording ∧ recording.ce.holdQueue = [] ∧
        ∀ e ∈ recording.up.tracker, e.phase ≠ .held) ∧
      (JournalInv portResetSetting ∧ HoldInv portResetSetting ∧
        exec .portRstNAssert portResetSetting = .next (after .portRstNAssert portResetSetting) ∧
        (bank portResetSetting .b).epoch = some 42 ∧ (bank portResetSetting .a).state ≠ .settling) ∧
      (JournalInv settling ∧ HoldInv settling ∧ (bank settling .b).state = .settling ∧ (bank settling .b).epoch = some 41 ∧
        (settling.up.tracker.filter fun e => e.phase = .held) = []) ∧
      (∀ n ∈ [1, 2], ∀ dirty ∈ [[], [pendingEntry 0x100032]], JournalInv (heldSettling n dirty) ∧ HoldInv (heldSettling n dirty) ∧
        (bank (heldSettling n dirty) .b).state = .settling ∧ (bank (heldSettling n dirty) .b).settle = n ∧
        (bank (heldSettling n dirty) .b).epoch = some 41 ∧ (bank (heldSettling n dirty) .b).dirty = dirty ∧
        (∀ d ∈ dirty, d.state = .pending) ∧
        ((heldSettling n dirty).up.tracker.filter fun e =>
          e.phase = .held ∧ e.stream.direction = .write ∧ e.epochTag = some 41).length = 1) := by
  refine ⟨rfl, rfl, ⟨rfl, rfl⟩, rfl, rfl,
    ⟨journalInv_of_check (by decide +kernel), holdInv_of_check (by decide +kernel), rfl, by decide +kernel⟩,
    ⟨journalInv_of_check (by decide +kernel), holdInv_of_check (by decide +kernel), rfl, rfl, by decide +kernel⟩,
    ⟨journalInv_of_check (by decide +kernel), holdInv_of_check (by decide +kernel), by decide +kernel⟩, ?_⟩
  intro n hn dirty hd
  simp only [List.mem_cons, List.not_mem_nil, or_false] at hn hd
  rcases hn with rfl | rfl <;> rcases hd with rfl | rfl <;>
    exact ⟨journalInv_of_check (by decide +kernel), holdInv_of_check (by decide +kernel), by decide +kernel⟩

theorem test_witness_PowerOnResetRule :
    guarded.pins.rstN = true ∧ (after .rstNAssert guarded).pins.rstN = false ∧ Instr.cut ≠ .rstNRelease ∧ Instr.cut ≠ .csNRise ∧
      exec .cut (after .rstNAssert guarded) = .next (after .cut (after .rstNAssert guarded)) :=
  ⟨rfl, rfl, by decide, by decide, rfl⟩

/-- `grantSetting` with n tags in use, OUTSTANDING or EXPIRED, and the counter at a value. -/
def tagsInUse (n : Nat) (st : TagState) (counter : Nat) : State :=
  { grantSetting with dp := { grantSetting.dp with
    shareCounter := counter, tags := (List.range n).map fun m => { tagWith m 0 (.passRead 0) with state := st } } }

/-- 64 OUTSTANDING tags, 256 tags in use, nothing waiting; tag 63 as the lowest FREE one, then tag 0; each class in turn. -/
theorem test_witness_GrantRule :
    grantSetting.pins.rstN = true ∧ 64 ≤ outstandingTags (tagsInUse 64 (.outstanding 250 0) 0).dp ∧
      (∀ m, m < 256 → ∃ t ∈ (tagsInUse 256 .expired 0).dp.tags, t.number = m) ∧
      (guarded.dp.urgent = [] ∧ guarded.dp.passThrough = [] ∧ guarded.dp.background = []) ∧
      (outstandingTags (tagsInUse 63 (.outstanding 250 0) 1).dp < 64 ∧ 63 < 256 ∧
        (∀ t ∈ (tagsInUse 63 (.outstanding 250 0) 1).dp.tags, t.number ≠ 63) ∧
        (∀ m, m < 63 → ∃ t ∈ (tagsInUse 63 (.outstanding 250 0) 1).dp.tags, t.number = m)) ∧
      (grantSetting.dp.urgent = [] ∧ grantSetting.dp.passThrough = passOf 0 :: (List.range 4).map (fun n => passOf (n + 1)) ∧
        grantSetting.dp.background = readOf 0 :: (List.range 3).map (fun n => readOf (n + 1)) ∧
        (tagsInUse 63 .expired 1).dp.shareCounter < grantSetting.dp.copyShare ∧
        grantSetting.dp.copyShare ≤ (tagsInUse 63 .expired 2).dp.shareCounter) := by
  refine ⟨rfl, by decide +kernel, ?_, by decide +kernel, ⟨by decide +kernel, by decide, by decide +kernel, ?_⟩, by decide +kernel⟩
  · intro m hm
    exact ⟨{ tagWith m 0 (.passRead 0) with state := .expired }, List.mem_map.2 ⟨m, List.mem_range.2 hm, rfl⟩, rfl⟩
  · intro m hm
    exact ⟨_, List.mem_map.2 ⟨m, List.mem_range.2 hm, rfl⟩, rfl⟩

/-- The last tagged write of Table 8.8.1 at its limit and one microsecond before, and a DISCARD entry. -/
theorem test_witness_PassThroughCompletion :
    expirySetting.pins.rstN = true ∧ findTag 17 expirySetting = some (tagWith 17 250 (.passWrite 0)) ∧
      (tagWith 17 250 (.passWrite 0)).state = .outstanding 250 250 ∧ (250 ≤ 250 ∧ 249 < 250) ∧
      ((tagWith 17 250 (.passWrite 0)).source = .passWrite 0 ∧ (entryWith 0 .issued .write (some 41)).stream.direction = .write) ∧
      findEntry 0 expirySetting = some (entryWith 0 .issued .write (some 41)) ∧
      (entryWith 0 .issued .write (some 41)).delivery = .deliver ∧
      ((after .portRstNAssert expirySetting).up.tracker.map TrackerEntry.delivery = [.discard]) := by decide +kernel

theorem test_witness_LateResponse :
    let t := after (.responseTimerExpiry 17) expirySetting
    t.pins.rstN = true ∧ (∀ x ∈ t.dp.tags, x.number ≠ 255) ∧
      (findTag 17 t = some { tagWith 17 250 (.passWrite 0) with state := .expired }) ∧
      OutstandingTag 17 (tagWith 17 250 (.passWrite 0)) expirySetting :=
  ⟨by decide +kernel, by decide +kernel, by decide +kernel, by decide +kernel, 250, 250, rfl⟩

theorem test_witness_SettleAndDrain :
    (JournalInv expirySetting ∧ (entryWith 0 .issued .read none).stream.direction = .read) ∧
      ((entryWith 0 .issued .write none).epochTag = none ∧ (entryWith 0 .issued .write none).mode = .guarded) ∧
      (JournalInv State.reset ∧ { entryWith 0 .issued .write none with mode := .transparent }.mode = .transparent) ∧
      (∀ i, (bank recording i).epoch ≠ some 40) ∧
      (JournalInv settling ∧ (bank settling .b).epoch = some 41 ∧ 2 ≤ (bank settling .b).settle) ∧
      ((bank expirySetting .b).state = .settling ∧ (bank expirySetting .b).settle ≤ 1 ∧ (bank expirySetting .b).dirty ≠ [] ∧
        ∀ d ∈ (bank expirySetting .b).dirty, d.state = .pending) ∧
      (JournalInv (withBanks freeBank { bankWith .settling 41 [] with settle := 1 }) ∧
        ({ bankWith .settling 41 [] with settle := 1 } : Bank).dirty = []) :=
  ⟨⟨journalInv_of_check (by decide +kernel), rfl⟩, ⟨rfl, rfl⟩, ⟨journalInv_of_check (by decide +kernel), rfl⟩,
    by rintro (_ | _) <;> decide +kernel, ⟨journalInv_of_check (by decide +kernel), by decide +kernel⟩, by decide +kernel,
    journalInv_of_check (by decide +kernel), rfl⟩

/-! ### Chapters 4 and 5 -/

/-- Table 5.10.1's start, with two writes held: on the second entry in the list, and none on the first. -/
def heldSetting : State :=
  { ringSetting with
    ju := { ringSetting.ju with
      bankA := bankWith .draining 5 [pendingEntry 0x3000, { pendingEntry 0x3001 with held := 1 }] }
    ce := { ringSetting.ce with holdQueue :=
      [{ entry := 1, stream := { initiator := 9, otag := 2 }, reason := .own 0x3001 5 (.running 2000 0) }] } }

/-- A copy read carries every strobe on (R144). -/
theorem test_copy_read_strobes :
    (startCopies ringSetting).dp.background.all (fun x => x.strobes = List.replicate 256 true) = true ∧
      (startCopies ringSetting).dp.background.length = 64 := by decide +kernel

theorem test_witness_CopiesStart :
    (JournalInv ringSetting ∧ DirtyInv ringSetting ∧ (bank ringSetting .a).state = .draining ∧
        ringSetting.ce.copies.length < 4 ∧ 1 ≤ freeSlots ringSetting.rw ∧
        (bank ringSetting .a).dirty[0]? = some (pendingEntry 0x3000) ∧ (pendingEntry 0x3000).state = .pending ∧
        ringSetting.ce.holdQueue = [] ∧ ringSetting.rw.place = some { base := 0x130000000, capacity := 6 }) ∧
      (JournalInv heldSetting ∧ DirtyInv heldSetting ∧
        (bank heldSetting .a).dirty[1]? = some { pendingEntry 0x3001 with held := 1 } ∧
        heldSetting.ce.holdQueue = [] ++
          { entry := 1, stream := { initiator := 9, otag := 2 }, reason := .own 0x3001 5 (.running 2000 0) } :: [] ∧
        (bank heldSetting .a).epoch = some 5 ∧
        HoldEntry.waitsOn { entry := 1, stream := { initiator := 9, otag := 2 }, reason := .own 0x3001 5 (.running 2000 0) } =
          some (0x3001, 5) ∧ 0 < ({ pendingEntry 0x3001 with held := 1 } : DirtyEntry).held) ∧
      (4 ≤ (startCopies ringSetting).ce.copies.length ∧ freeSlots (startCopies ringSetting).rw = 0) :=
  ⟨⟨journalInv_of_check (by decide +kernel), dirtyInv_of_check (by decide +kernel), by decide +kernel⟩,
    ⟨journalInv_of_check (by decide +kernel), dirtyInv_of_check (by decide +kernel), by decide +kernel⟩, by decide +kernel⟩

/-- A copy of granule 0x3000 with a number of reads resolved, read 15 being OUTSTANDING on tag 7 at its limit. -/
def copySetting (resolved failed : Nat) (abandoned : Bool) : State :=
  let s := withBanks (bankWith (if abandoned then .closing else .draining) 5 [{ pendingEntry 0x3000 with state := .copying }])
    (bankWith .opened 6 [])
  { s with
    ce := { s.ce with copies :=
      [{ copyWith 0x3000 5 0 0 .background with resolved := resolved, failed := failed, abandoned := abandoned }] }
    rw := { s.rw with reserve := 1, position := 1, slots :=
      [{ seq := 0, position := 0, use := .dataSlot, progress := .reserved, record := none }] }
    dp := { s.dp with tags := [tagWith 7 250 (.copyRead 0 15)] } }

/-- Epoch 12 DRAINING in bank A with one entry in a state, and no copy. -/
def resolvedBank (st : EntryState) : State :=
  withBanks (bankWith .draining 12 [{ pendingEntry 0x100003 with state := st }]) freeBank

/-- A bank with every entry resolved asks for its END record; one with an entry COPYING, or not DRAINING, changes nothing. -/
theorem test_close_if_resolved :
    (bank (closeIfResolved .a (resolvedBank .copied)) .a).state = .closing ∧
      (closeIfResolved .a (resolvedBank .copied)).rw.account.endSeq = some 0 ∧
      closeIfResolved .a (resolvedBank .copying) = resolvedBank .copying ∧
      closeIfResolved .b (resolvedBank .copied) = resolvedBank .copied := by decide +kernel

/-- The fifteenth and the sixteenth read, and the sixteenth of an abandoned copy and of one with a failed read. -/
theorem test_witness_CopyReadTaken :
    (∀ n ∈ [14, 15], ∀ failed ∈ [0, 1], ∀ abandoned, (copySetting n failed abandoned).pins.rstN = true ∧
        JournalInv (copySetting n failed abandoned) ∧
        findTag 7 (copySetting n failed abandoned) = some (tagWith 7 250 (.copyRead 0 15)) ∧
        (∀ x ∈ (copySetting n failed abandoned).ce.copies, x.seq = 0 ∧ x.resolved = n ∧ x.failed = failed ∧
          x.abandoned = abandoned ∧ x.epoch = 5) ∧
        (copySetting n failed abandoned).ce.copies ≠ [] ∧ (bank (copySetting n failed abandoned) .a).epoch = some 5 ∧
        (bank (copySetting n failed abandoned) .a).state.isCut = true) ∧
      ((tagWith 7 250 (.copyRead 0 15)).state = .outstanding 250 250 ∧ 250 ≤ 250 ∧ 14 + 1 < 16 ∧ 15 + 1 = 16) ∧
      ((∀ h ∈ heldSetting.ce.holdQueue, h.waitsOn = some (0x3001, 5)) ∧ heldSetting.ce.holdQueue ≠ []) ∧
      ((bank (resolvedBank .skipped) .a).state = .draining ∧
        (∀ d ∈ (bank (resolvedBank .skipped) .a).dirty, d.state = .copied ∨ d.state = .skipped) ∧
        (∃ d ∈ (bank (resolvedBank .copying) .a).dirty, d.state = .pending ∨ d.state = .copying) ∧
        (bank (resolvedBank .copied) .b).state ≠ .draining) ∧
      (∀ x ∈ (copySetting 15 0 true).ce.copies, x.resolved < 16) ∧
      (JournalInv (copySetting 16 0 true) ∧ (∀ i, (bank (copySetting 16 0 true) i).state ≠ .draining) ∧
        (copySetting 16 0 true).ce.holdQueue = [] ∧ ((copySetting 16 0 true).ce.copies.map CopyOp.seq).Nodup ∧
        ∀ x ∈ (copySetting 16 0 true).ce.copies, 16 ≤ x.resolved ∧ x.abandoned = true ∧
          (bank (copySetting 16 0 true) .a).epoch = some x.epoch) := by
  refine ⟨?_, by decide +kernel, by decide +kernel, by decide +kernel, by decide +kernel,
    journalInv_of_check (by decide +kernel), by rintro (_ | _) <;> decide +kernel, by decide +kernel⟩
  intro n hn failed hf abandoned
  simp only [List.mem_cons, List.not_mem_nil, or_false] at hn hf
  rcases hn with rfl | rfl <;> rcases hf with rfl | rfl <;> cases abandoned <;>
    exact ⟨rfl, journalInv_of_check (by decide +kernel), by decide +kernel⟩

/-- A damage of a DRAINING bank with a copy: the reads that wait are withdrawn as resolved, and the entry is COPYING as long as an
OUTSTANDING read remains, and SKIPPED with a VOID record when none does (R31, R88). -/
theorem test_damage_of_a_copy :
    let waiting (n : Nat) : State :=
      { copySetting n 0 false with dp := { (copySetting n 0 false).dp with background := (List.range 3).map readOf } }
    ((bank (damageBank .a .abandon (waiting 12)) .a).dirty.map DirtyEntry.state = [.copying] ∧
      (damageBank .a .abandon (waiting 12)).ce.copies.map CopyOp.resolved = [15]) ∧
      (bank (damageBank .a .abandon (waiting 13)) .a).dirty.map DirtyEntry.state = [.skipped] ∧
      (damageBank .a .abandon (waiting 13)).ce.copies = [] ∧
      (damageBank .a .abandon (waiting 13)).dp.background.map Request.source = [.voidHeader 0] := by decide +kernel

/-- A bank without and with a copy, with the ring full and with room in it. -/
theorem test_witness_DamageRule :
    (JournalInv portResetSetting ∧ HoldInv portResetSetting ∧ (bank portResetSetting .a).state = .draining ∧
        portResetSetting.ce.copies = [] ∧ freeSlots portResetSetting.rw = 0) ∧
      (JournalInv (copySetting 3 0 false) ∧ HoldInv (copySetting 3 0 false) ∧
        (∀ c ∈ (copySetting 3 0 false).ce.copies, (bank (copySetting 3 0 false) .a).epoch = some c.epoch ∧
          ∃ d ∈ (bank (copySetting 3 0 false) .a).dirty[c.index]?, d.state = .copying) ∧
        (copySetting 3 0 false).ce.copies ≠ [] ∧ ((copySetting 3 0 false).ce.copies.map CopyOp.seq).Nodup ∧
        ((copySetting 3 0 false).ce.copies.map CopyOp.index).Nodup ∧ 1 ≤ freeSlots (copySetting 3 0 false).rw ∧ (bank (copySetting 3 0 false) .b).state = .opened) ∧
      (JournalInv (copySetting 3 0 true) ∧ HoldInv (copySetting 3 0 true) ∧
        (bank (copySetting 3 0 true) .a).state = .closing ∧ (bank (copySetting 3 0 true) .a).damage = none) ∧
      (JournalInv settling ∧ HoldInv settling ∧ (bank settling .b).state = .settling) ∧ (bank guarded .a).state = .free ∧
      ((bank (after .abandon (copySetting 3 0 true)) .a).damage ≠ none) :=
  ⟨⟨journalInv_of_check (by decide +kernel), holdInv_of_check (by decide +kernel), by decide +kernel⟩,
    ⟨journalInv_of_check (by decide +kernel), holdInv_of_check (by decide +kernel), by decide +kernel⟩,
    ⟨journalInv_of_check (by decide +kernel), holdInv_of_check (by decide +kernel), by decide +kernel⟩,
    ⟨journalInv_of_check (by decide +kernel), holdInv_of_check (by decide +kernel), by decide +kernel⟩, by decide +kernel,
    by decide +kernel⟩

/-- A slot table entry of sequence 0 at position 0. -/
def slotWith (use : SlotUse) (progress : Progress) (record : Option RecordWrite) : Slot :=
  { seq := 0, position := 0, use := use, progress := progress, record := record }

/-- Epoch 41 CLOSING in bank A with a spill list, its END slot reserved, filled at it or one before it. -/
def endSetting (spill : List SpillEntry) (filled : Seq) : State :=
  let s := withBanks { bankWith .closing 41 [] with spill := spill } freeBank
  { s with rw := { s.rw with
    reserve := 1, filled := filled, position := 1, slots := [slotWith .endSlot .reserved none]
    account := { epoch := some 41, firstData := none, dataSlots := 0, endSeq := some 0 } } }

theorem test_witness_RecordsHandedOver :
    (JournalInv (copySetting 15 0 false) ∧ (copySetting 15 0 false).rw.place = some ringPlace ∧
        findSlot 0 (copySetting 15 0 false) = some (slotWith .dataSlot .reserved none) ∧
        (copyWith 0x3000 5 0 0 .background).seq = (slotWith .dataSlot .reserved none).seq ∧
        1 ≤ freeSlots (copySetting 15 0 false).rw) ∧
      (∀ spill, JournalInv (endSetting spill 0)) ∧
      (∀ filled, (bank (endSetting [] filled) .a).state.isCut = true ∧ (bank (endSetting [] filled) .a).epoch = some 41 ∧
        (endSetting [] filled).rw.account.endSeq = some 0 ∧
        findSlot 0 (endSetting [] filled) = some (slotWith .endSlot .reserved none)) ∧
      ((endSetting [] 0).rw.filled = 0 ∧ (endSetting [] 0xFFFFFFFF).rw.filled ≠ 0 ∧ (bank (endSetting [] 0) .a).spill = []) ∧
      (bank (endSetting [{ window := 5, low := 1, high := 1 }] 0) .a).spill ≠ [] ∧
      freeSlots { (endSetting [] 0).rw with reserve := 64 } = 0 := by
  refine ⟨⟨journalInv_of_check (by decide +kernel), by decide +kernel⟩, fun spill => ?_, fun filled => ⟨rfl, rfl, rfl, rfl⟩,
    by decide +kernel, by decide +kernel, by decide +kernel⟩
  refine ⟨⟨fun h => ?_, fun _ => ⟨41, rfl, by decide, by decide⟩⟩, ⟨fun _ => rfl, fun h => absurd rfl h⟩, fun h => ?_,
    fun h => ?_, ⟨fun h => ?_, fun h => ?_⟩, fun e _ h => ?_, fun h => ?_, fun h => ?_⟩
  · exact absurd h (by simp [endSetting, withBanks, bankWith])
  · exact absurd h.2 (by simp [endSetting, withBanks, freeBank])
  · exact absurd h.2 (by simp [endSetting, withBanks, freeBank, BankState.isCut])
  · exact absurd h (by simp [endSetting, withBanks, freeBank, bankWith])
  · exact absurd h (by simp [endSetting, withBanks, freeBank, bankWith])
  · exact absurd h (by simp [endSetting, withBanks, freeBank])
  · exact absurd h (by simp [endSetting, withBanks, guarded, State.reset, powerOn])
  · exact absurd h (by simp [endSetting, withBanks, guarded, tables])

/-- A record being written for epoch 41, CLOSING, with a number of its 16 area writes resolved and failed, one write of it
OUTSTANDING on tag 7. -/
def recordSetting (resolved failed : Nat) (source : Source) : State :=
  let s := withBanks (bankWith .closing 41 []) freeBank
  { s with
    rw := { s.rw with
      reserve := 1, position := 1, slots := [slotWith .dataSlot .writing (some
        { kind := .data, granule := some 0x3000, header := [], areaWrites := 16, resolved := resolved, failed := failed })] }
    dp := { s.dp with tags := [tagWith 7 250 source] } }

/-- The fifteenth and the sixteenth data write, and the header write; then the slots that filled passes. -/
theorem test_witness_RecordWriteTaken :
    (∀ n ∈ [14, 15], ∀ src ∈ [Source.dataWrite 0 n, Source.dataHeader 0], (recordSetting n 0 src).pins.rstN = true ∧
        JournalInv (recordSetting n 0 src) ∧ RingInv (recordSetting n 0 src) ∧
        (recordSetting n 0 src).rw.place = some ringPlace ∧ findTag 7 (recordSetting n 0 src) = some (tagWith 7 250 src) ∧
        (findSlot 0 (recordSetting n 0 src)).bind Slot.record =
          some { kind := .data, granule := some 0x3000, header := [], areaWrites := 16, resolved := n, failed := 0 } ∧
        (bank (recordSetting n 0 src) .a).state.isCut = true) ∧
      (tagWith 7 250 (.dataWrite 0 14)).state = .outstanding 250 250 ∧ 250 ≤ 250 ∧ 14 + 1 ≠ 16 ∧ 15 + 1 = 16 ∧
      (([slotWith .endSlot .reserved none].map fun y => if y.seq = 0 then { y with progress := .done } else y) =
          [slotWith .endSlot .done none] ++ [] ∧ (∃ y ∈ [slotWith .endSlot .done none], y.use = .endSlot)) ∧
      (([slotWith .dataSlot .writing none].map fun y => if y.seq = 0 then { y with progress := .done } else y) =
          [slotWith .dataSlot .done none] ++ [] ∧ (∀ y ∈ [slotWith .dataSlot .done none], y.use ≠ .endSlot)) := by
  refine ⟨?_, by decide +kernel⟩
  intro n hn src hs
  simp only [List.mem_cons, List.not_mem_nil, or_false] at hn hs
  rcases hn with rfl | rfl <;> rcases hs with rfl | rfl <;>
    exact ⟨rfl, journalInv_of_check (by decide +kernel), ringInv_of_check (by decide +kernel), by decide +kernel⟩

/-- A held write with its timer running at its limit, running below it, or stopped, and one behind it. -/
def timerSetting (timer : Timer) : State :=
  { portResetSetting with ce := { portResetSetting.ce with holdQueue :=
    [{ entry := 1, stream := { initiator := 9, otag := 2 }, reason := .own 0x100003 41 timer },
      { entry := 4, stream := { initiator := 9, otag := 2 }, reason := .behind }] } }

theorem test_witness_HoldTimerExpiryRule :
    (∀ timer ∈ [Timer.running 2000 1999, .running 2000 2000, .stopped], (timerSetting timer).pins.rstN = true ∧
        JournalInv (timerSetting timer) ∧ HoldInv (timerSetting timer) ∧
        ((timerSetting timer).ce.holdQueue.map HoldEntry.entry).Nodup ∧
        { entry := 1, stream := { initiator := 9, otag := 2 }, reason := .own 0x100003 41 timer } ∈
          (timerSetting timer).ce.holdQueue ∧
        { entry := 4, stream := { initiator := 9, otag := 2 }, reason := .behind } ∈ (timerSetting timer).ce.holdQueue) ∧
      1999 < 2000 ∧ 2000 ≤ 2000 := by
  refine ⟨?_, by decide⟩
  intro timer ht
  simp only [List.mem_cons, List.not_mem_nil, or_false] at ht
  rcases ht with rfl | rfl | rfl <;>
    exact ⟨rfl, journalInv_of_check (by decide +kernel), holdInv_of_check (by decide +kernel), by decide +kernel⟩

/-! ### The timebase, the monitor, the ring commands, the invariants -/

/-- A full ring with a PENDING entry; and a free slot, four copies, or nothing PENDING. -/
theorem test_witness_MicrosecondTick :
    let s := draining (write9 0x40003000 16)
    s.pins.rstN = true ∧ JournalInv s ∧ (s.ce.copies.length < 4 ∧ freeSlots s.rw = 0) ∧
      ((bank s .a).state = .draining ∧ ∃ d ∈ (bank s .a).dirty, d.state = .pending) ∧ 1 ≤ freeSlots ringSetting.rw ∧
      (∃ (tag : Tag → Tag) (hold : HoldEntry → HoldEntry), (∀ t, t.state = .expired → tag t = t) ∧
        (∀ t l n, t.state = .outstanding l n → tag t = { t with state := .outstanding l (n + 1) }) ∧
        (∀ h g e l n, h.reason = .own g e (.running l n) → hold h = { h with reason := .own g e (.running l (n + 1)) }) ∧
        (∀ h, h.reason = .behind ∨ (∃ g e, h.reason = .own g e .stopped) → hold h = h)) := by
  refine ⟨rfl, journalInv_of_check (by decide +kernel), by decide +kernel, by decide +kernel, by decide +kernel,
    fun t => match t.state with
      | .expired => t
      | .outstanding l n => { t with state := .outstanding l (n + 1) },
    fun h => match h.reason with
      | .own g e (.running l n) => { h with reason := .own g e (.running l (n + 1)) }
      | .own _ _ .stopped => h
      | .behind => h, ?_, ?_, ?_, ?_⟩
  · intro t h; simp [h]
  · intro t l n h; simp [h]
  · intro h g e l n hr; simp [hr]
  · rintro h (hr | ⟨g, e, hr⟩) <;> simp [hr]

/-- An enabled counter that takes the report, at 2^48 − 1, and one that is disabled. -/
theorem test_witness_CounterCounts :
    let c : Counter := { resetCounter with enabled := true, domain := some 2, value := 2 ^ 48 - 1 }
    let s : State := { guarded with tm := { counters := (Vector.replicate 8 resetCounter).setIfInBounds 3 c } }
    s.tm.counters[3]? = some c ∧ s.tm.counters[7]? = some resetCounter ∧
      (c.enabled = true ∧ c.event = .accepted ∧ c.domain = some 2) ∧ resetCounter.enabled = false ∧
      2 ^ 48 ≤ c.value + 1 ∧ c.value + 0 < 2 ^ 48 ∧
      ∀ x ∈ guarded.tm.counters.toList, x.value + 1 < 2 ^ 48 := by decide +kernel

/-- `guarded` with n fault records. -/
def faultsHeld (n lost : Nat) : State :=
  { guarded with fq :=
      { records := List.replicate n { seq := 40, kind := .keyDenied, fields := {}, timestamp := 5 }, lost := lost, nextSeq := 48 } }

theorem test_witness_FaultsRule :
    (faultsHeld 7 0).fq.records.length < 8 ∧ (8 ≤ (faultsHeld 8 255).fq.records.length ∧ (faultsHeld 8 255).fq.lost ≤ 255) ∧
      (faultsHeld 7 0).pins.rstN = true ∧ (faultsHeld 0 0).fq.records = [] ∧
      (faultsHeld 2 0).fq.records = { seq := 40, kind := .keyDenied, fields := {}, timestamp := 5 } ::
        (faultsHeld 1 0).fq.records := by decide +kernel

theorem test_witness_CounterCommands :
    guarded.pins.rstN = true ∧ (7 < 8 ∧ 11 < 12 ∧ (15 < 16 ∧ 16 ≠ 255) ∧ (63 < 64 ∧ 64 ≠ 255) ∧ 2 < 3 ∧ 1 < 2) ∧
      guarded.tm.counters[7]? = some resetCounter ∧ (∀ x, some 15 = some x → x ≤ 15) ∧ (∀ x, some 63 = some x → x ≤ 63) ∧
      (∃ code : Option Direction → Nat, code (some .read) = 0 ∧ code (some .write) = 1 ∧ code none = 2) := by
  refine ⟨rfl, by decide, by decide +kernel, fun x h => ?_, fun x h => ?_, directionFilterCode, rfl, rfl, rfl⟩ <;>
    simp only [Option.some.injEq] at h <;> omega

theorem test_witness_AlertsRule : guarded.pins.rstN = true := rfl

/-- RECORDING, and both banks FREE; slot counts 1, 65535, 65536; a region that ends at the Memory Limit, and one of its granules
in window 5. -/
theorem test_witness_ConfigureRingRule :
    guarded.pins.rstN = true ∧ recording.ec.journal = .recording ∧
      ¬ (guarded.ec.journal = .recording ∨ guarded.ju.bankA.state ≠ .free ∨ guarded.ju.bankB.state ≠ .free ∨
        guarded.rw.pendingEnd ≠ none) ∧
      (63 % 64 ≠ 0 ∧ 2 ^ 40 ≤ 2 ^ 40 ∧ 65535 < 65536) ∧ (0x13FFDF800 % 64 = 0 ∧ 0x13FFDF800 < 2 ^ 40 ∧ 2 ≤ 32) ∧
      guarded.wu.memoryLimit * 4096 = 0x13FFDF800 + 32 * 4160 ∧ guarded.wu.memoryLimit * 4096 < 0x13FFDF840 + 32 * 4160 ∧
      (windowAt guarded.wu 5 = some window5 ∧ window5.key = .readWrite ∧
        Meet window5.memLow window5.memEnd 0x1000FFFC0 (0x1000FFFC0 + 2 * 4160)) ∧
      (∀ m w, windowAt guarded.wu m = some w → w.key = .readWrite →
        ¬ Meet w.memLow w.memEnd 0x13FFDF800 (0x13FFDF800 + 32 * 4160)) :=
  ⟨rfl, by decide +kernel, by decide +kernel, by decide, by decide, by decide +kernel, by decide +kernel,
    ⟨by decide +kernel, rfl, by unfold Meet; decide +kernel⟩,
    fun m w hw hk hm => by
      have := windows_of_check (wu := tables) (p := fun _ w => !intersects w.memLow w.memEnd 0x13FFDF800 (0x13FFDF800 + 32 * 4160))
        (by decide +kernel) m w hw
      simp [intersects_iff.2 hm] at this⟩

/-- A ring with two filled slots; the same with an END record pending, where the slots are all used and where one is free. -/
theorem test_witness_ReleaseAndRingLow :
    let s : State := { guarded with rw := { guarded.rw with reserve := 2, filled := 2, position := 2 } }
    let full (n : Seq) : State := { guarded with rw := { guarded.rw with reserve := 64 + n, filled := 64, pendingEnd := some 5 } }
    s.pins.rstN = true ∧ 65535 < 65536 ∧ resetRingWriter.place = none ∧ s.rw.place ≠ none ∧
      (s.rw.filled - s.rw.release).toNat < 3 ∧ 2 ≤ (s.rw.filled - s.rw.release).toNat ∧ s.rw.pendingEnd = none ∧
      ((full 0).rw.pendingEnd = some 5 ∧ 1 ≤ freeSlots { (full 0).rw with release := (full 0).rw.release + BitVec.ofNat 32 1 } ∧
        1 ≤ ((full 0).rw.filled - (full 0).rw.release).toNat) ∧
      freeSlots { (full 0).rw with release := (full 0).rw.release + BitVec.ofNat 32 0 } = 0 ∧
      (∀ i, (bank (full 0) i).state ≠ .draining) ∧
      (belowThreshold ringSetting.rw = false ∧ belowThreshold (startCopies ringSetting).rw = true) := by
  refine ⟨rfl, by decide, rfl, by decide +kernel, by decide +kernel, by decide +kernel, rfl, by decide +kernel,
    by decide +kernel, ?_, by decide +kernel⟩
  rintro (_ | _) <;> decide +kernel

/-- The state with a CUT in its queue. -/
def queued (s : State) : State := setPending [.cut] s

theorem queueInv_queued (s : State) : QueueInv (queued s) := by
  intro c hc
  simp only [queued, setPending, List.mem_singleton] at hc
  subst hc
  rfl

/-- A state with holds, banks and windows, a CUT in front. -/
theorem test_witness_JournalInvariantKept :
    QueueInv (queued portResetSetting) ∧ JournalInv (queued portResetSetting) ∧
      step (queued portResetSetting) = .next (after .cut portResetSetting) :=
  ⟨queueInv_queued _, journalInv_of_check (by decide +kernel), rfl⟩

theorem test_witness_HoldInvariantKept :
    QueueInv (queued portResetSetting) ∧ JournalInv (queued portResetSetting) ∧ HoldInv (queued portResetSetting) ∧
      portResetSetting.ce.holdQueue ≠ [] ∧ step (queued portResetSetting) = .next (after .cut portResetSetting) :=
  ⟨queueInv_queued _, journalInv_of_check (by decide +kernel), holdInv_of_check (by decide +kernel), by decide +kernel, rfl⟩

theorem test_witness_WindowInvariantKept :
    WindowInv (setPending [.extendWindow 6 32] guarded) ∧
      step (setPending [.extendWindow 6 32] guarded) = .next (after (.extendWindow 6 32) guarded) :=
  ⟨windowInv_of_check (by decide +kernel), rfl⟩

theorem test_witness_RingInvariantKept :
    RingInv (setPending [.responseOkay (responseTo 7 .write [])] (recordSetting 0 0 (.dataHeader 0))) ∧
      RingInv (queued ringSetting) ∧ step (queued ringSetting) = .next (after .cut ringSetting) :=
  ⟨ringInv_of_check (by decide +kernel), ringInv_of_check (by decide +kernel), rfl⟩

theorem test_witness_TableBoundsKept :
    DirtyInv (queued portResetSetting) ∧ CapacityInv (queued portResetSetting) ∧
      CapacityInv fullTracker ∧ step (queued portResetSetting) = .next (after .cut portResetSetting) :=
  ⟨dirtyInv_of_check (by decide +kernel), capacityInv_of_check (by decide +kernel), capacityInv_of_check (by decide +kernel), rfl⟩

theorem test_witness_InvariantsAtReset :
    guarded.pins.rstN = true ∧ exec .rstNAssert guarded = .next (after .rstNAssert guarded) ∧
      exec .rstNRelease (after .rstNAssert guarded) = .next (after .rstNRelease (after .rstNAssert guarded)) := ⟨rfl, rfl, rfl⟩

end Sys2Proof.Tests
end

/-! # What a step does, command by command -/

namespace Sys2Proof.Machine

/-- What a command or an event does to the bridge, apart from RING_LOW and the delivery of the answer (R112, R179). -/
def effect (c : Instr) (s : State) : State :=
  match c with
  | .readStatus | .readDomainMap | .readRing => s
  | .setMode m => (setMode m s).2
  | .setMemoryLimit l => (setMemoryLimit l s).2
  | .setTimeouts r h => (setTimeouts r h s).2
  | .setCopyShare n => (setCopyShare n s).2
  | .mapInitiator i d => (mapInitiator i d s).2
  | .installWindow n d a g e b k j => (installWindow n d a g e b k j s).2
  | .removeWindow n => (removeWindow n s).2
  | .extendWindow n e => (extendWindow n e s).2
  | .setKey n k => (setKey n k s).2
  | .readWindow n => (readWindow n s).2
  | .journalStart n => (journalStart n s).2
  | .cut => (cutCommand s).2
  | .journalStop => (stopCommand s).2
  | .abandon => (abandonCommand s).2
  | .readBank b i => (readBank b i s).2
  | .lookupGranule g => (lookupGranule g s).2
  | .readSpill b i => (readSpill b i s).2
  | .configureRing b n => (configureRing b n s).2
  | .unconfigureRing _ => (unconfigureRing s).2
  | .releaseSlots n => (releaseSlots n s).2
  | .setRingLow n => (setRingLow n s).2
  | .readEpoch a i => (readEpoch a i s).2
  | .readFault => (readFault s).2
  | .setCounter c e d w r sc en => (setCounter c e d w r sc en s).2
  | .readCounter c => (readCounter c s).2
  | .clearCounter c => (clearCounter c s).2
  | .setAlertEnable x => (setAlertEnable x s).2
  | .readAlerts => (readAlerts s).2
  | .ackAlerts x => (ackAlerts x s).2
  | .csNFall => csFall s
  | .csNRise => csRise s
  | .requestFrame bytes => { s with mp := bytes.foldl takeByte s.mp }
  | .frameRefusal => refuseFrame s
  | .rstNAssert => assertReset s
  | .rstNRelease => releaseReset s
  | .portRstNAssert => assertPortReset s
  | .portRstNDeassert => deassertPortReset s
  | .pwrwarnAssert => assertPwrwarn s
  | .pwrwarnDeassert => setPwrwarn false s
  | .writeStaging w => stageWrite w s
  | .acceptance (.read t) => acceptRead t s
  | .acceptance .lastBeat => acceptStaged s
  | .grant => grantNext s
  | .responseOkay r => takeResponse .okay r s
  | .responseError r => takeResponse .error r s
  | .lateResponse d r => takeResponse d r s
  | .responseTimerExpiry n => expireResponse n s
  | .holdTimerExpiry n => expireHold n s
  | .usTick => tick s
  | .responseByteShiftedOut => { s with mp := shiftOut s.mp }

/-- The rows of the input pins, which are judged by their own conditions also while RST_N is low. -/
def movesPin : Instr → Bool
  | .csNFall | .csNRise | .rstNAssert | .rstNRelease | .portRstNAssert | .portRstNDeassert | .pwrwarnAssert
  | .pwrwarnDeassert => true
  | _ => false

/-- Every row is a pin's, an event of the bridge or the execution of a command, with its effect. -/
theorem exec_forms (c : Instr) (s : State) :
    (movesPin c = true ∧ exec c s = .next (effect c s)) ∨ (∃ f, exec c s = event f s ∧ f s = effect c s) ∨
      ∃ body, exec c s = execute c body s ∧ (body s).2 = effect c s := by
  cases c
  case csNFall | csNRise | rstNAssert | rstNRelease | portRstNAssert | portRstNDeassert | pwrwarnAssert | pwrwarnDeassert =>
    exact .inl ⟨rfl, rfl⟩
  case acceptance p => cases p <;> exact .inr (.inl ⟨_, rfl, rfl⟩)
  case requestFrame bytes => exact .inr (.inl ⟨fun s => { s with mp := bytes.foldl takeByte s.mp }, rfl, rfl⟩)
  case responseByteShiftedOut => exact .inr (.inl ⟨fun s => { s with mp := shiftOut s.mp }, rfl, rfl⟩)
  case frameRefusal | writeStaging | grant | responseOkay | responseError | lateResponse | responseTimerExpiry
      | holdTimerExpiry | usTick => exact .inr (.inl ⟨_, rfl, rfl⟩)
  case readStatus => exact .inr (.inr ⟨fun s => taken (statusData s) s, rfl, rfl⟩)
  case readDomainMap => exact .inr (.inr ⟨fun s => taken (domainMapData s.wu) s, rfl, rfl⟩)
  case readRing => exact .inr (.inr ⟨fun s => taken (ringData s) s, rfl, rfl⟩)
  all_goals exact .inr (.inr ⟨_, rfl, rfl⟩)

/-- A step of any command ends in the state as it was, or in the command's effect as it is, with RING_LOW judged, or with
RING_LOW judged and the answer delivered. -/
theorem exec_cases {c : Instr} {s t : State} (h : exec c s = .next t) :
    t = s ∨ t = effect c s ∨ t = raiseRingLow s (effect c s) ∨
      ∃ ans, t = deliverAnswer c ans (raiseRingLow s (effect c s)) := by
  rcases exec_forms c s with ⟨-, he⟩ | ⟨f, he, hf⟩ | ⟨body, he, hb⟩
  · rw [he] at h
    cases h
    exact .inr (.inl rfl)
  · rw [he] at h
    cases hr : s.pins.rstN with
    | true => rw [event_high hr, hf] at h; cases h; exact .inr (.inr (.inl rfl))
    | false => rw [event_low hr] at h; cases h; exact .inl rfl
  · rw [he] at h
    cases hr : s.pins.rstN with
    | true => rw [execute_high hr, hb] at h; cases h; exact .inr (.inr (.inr ⟨_, rfl⟩))
    | false => rw [execute_low hr] at h; cases h; exact .inl rfl

/-- While RST_N is low nothing but a pin's row has an effect (notes/assumptions/5.md). -/
theorem exec_low {c : Instr} {s t : State} (hr : s.pins.rstN = false) (hc : movesPin c = false) (h : exec c s = .next t) :
    t = s := by
  rcases exec_forms c s with ⟨hp, -⟩ | ⟨f, he, -⟩ | ⟨body, he, -⟩
  · rw [hc] at hp
    cases hp
  · rw [he, event_low hr] at h
    cases h
    rfl
  · rw [he, execute_low hr] at h
    cases h
    rfl

/-- What RING_LOW and the delivery of an answer keep, a command keeps when its effect does. -/
theorem exec_preserves {P : State → Prop} {c : Instr} {s t : State} (hlow : ∀ b a, P a → P (raiseRingLow b a))
    (hans : ∀ ans a, P a → P (deliverAnswer c ans a)) (hs : P s) (he : P (effect c s)) (h : exec c s = .next t) : P t := by
  rcases exec_cases h with rfl | rfl | rfl | ⟨ans, rfl⟩
  · exact hs
  · exact he
  · exact hlow _ _ he
  · exact hans _ _ (hlow _ _ he)

/-- A step idles on an empty queue and runs the front command otherwise (notes/assumptions/3.md). -/
theorem step_cases {s t : State} (h : step s = .next t) :
    (s.pending = [] ∧ t = s) ∨ ∃ c rest, s.pending = c :: rest ∧ exec c (setPending rest s) = .next t := by
  unfold step at h
  split at h
  · rename_i hp; cases h; exact .inl ⟨hp, rfl⟩
  · rename_i c rest hp; exact .inr ⟨c, rest, hp, h⟩

end Sys2Proof.Machine


/-! # The place of the ring: no shared operation moves it (R98, R99) -/

namespace Sys2Proof.Machine

@[simp] theorem reserveSlot_place (u : SlotUse) (s : State) : (reserveSlot u s).rw.place = s.rw.place := rfl

@[simp] theorem startRecord_place (q : Seq) (w : RecordWrite) (s : State) : (startRecord q w s).rw.place = s.rw.place := rfl

@[simp] theorem composeEnd_place (b : Bank) (x : Slot) (s : State) : (composeEnd b x s).rw.place = s.rw.place := rfl

@[simp] theorem handOverData_place (c : CopyOp) (s : State) : (handOverData c s).rw.place = s.rw.place := by
  unfold handOverData
  split <;> simp

@[simp] theorem handOverVoid_place (c : CopyOp) (s : State) : (handOverVoid c s).rw.place = s.rw.place := by
  unfold handOverVoid
  split <;> simp

@[simp] theorem writeEndIfReady_place (s : State) : (writeEndIfReady s).rw.place = s.rw.place := by
  rcases writeEndIfReady_cases s with h | ⟨_, _, _, -, -, -, -, -, -, h⟩ <;> simp [h]

@[simp] theorem reserveEnd_place (s : State) : (reserveEnd s).rw.place = s.rw.place := by
  simp [reserveEnd]

@[simp] theorem requestEnd_place (e : Option Nat) (s : State) : (requestEnd e s).rw.place = s.rw.place := by
  simp only [requestEnd]
  (repeat' split) <;> simp

@[simp] theorem startCopy_place (i : BankId) (n : Nat) (h : Bool) (s : State) :
    (startCopy i n h s).rw.place = s.rw.place := by
  simp only [startCopy]
  (repeat' split) <;> simp

@[simp] theorem startCopies_place (s : State) : (startCopies s).rw.place = s.rw.place :=
  startCopies_induction (P := fun t => t.rw.place = s.rw.place) rfl fun _ _ _ _ ht _ _ _ _ => by simp [ht]

@[simp] theorem becomeClosing_place (i : BankId) (s : State) : (becomeClosing i s).rw.place = s.rw.place := by
  simp [becomeClosing]

@[simp] theorem closeIfResolved_place (i : BankId) (s : State) : (closeIfResolved i s).rw.place = s.rw.place := by
  rcases closeIfResolved_cases i s with h | ⟨-, -, h⟩ <;> simp [h]

@[simp] theorem drainIfSettled_place (i : BankId) (s : State) : (drainIfSettled i s).rw.place = s.rw.place := by
  rcases drainIfSettled_cases i s with h | ⟨-, -, h⟩ <;> simp [h]

@[simp] theorem drainAfter_place (e : TrackerEntry) (s : State) : (drainAfter e s).rw.place = s.rw.place := by
  rcases drainAfter_cases e s with h | ⟨t, -, h⟩
  · rw [h]
  · rcases drainEpoch_cases t s with ⟨-, hd⟩ | ⟨_, -, hd⟩ <;> simp [h, hd]

@[simp] theorem completeWrite_place (e : TrackerEntry) (s : State) : (completeWrite e s).rw.place = s.rw.place := by
  simp [completeWrite]

@[simp] theorem acceptCut_place (i : BankId) (c : CutSource) (s : State) : (acceptCut i c s).rw.place = s.rw.place := by
  cases c <;> simp [acceptCut]

@[simp] theorem heldPowerCut_place (s : State) : (heldPowerCut s).rw.place = s.rw.place := by
  rcases heldPowerCut_cases s with ⟨-, h⟩ | ⟨-, h | ⟨_, -, -, h⟩⟩ <;> simp [h]

@[simp] theorem closeEpoch_place (s : State) : (closeEpoch s).rw.place = s.rw.place := by
  rcases closeEpoch_cases s with h | ⟨_, -, -, h⟩ <;> simp [h]

@[simp] theorem finishSlot_place (q : Seq) (s : State) : (finishSlot q s).rw.place = s.rw.place := by
  simp only [finishSlot]
  split <;> simp

@[simp] theorem resolveArea_place (q : Seq) (f : Bool) (s : State) : (resolveArea q f s).rw.place = s.rw.place := by
  simp only [resolveArea]
  (repeat' split) <;> simp

@[simp] theorem completeCopy_place (c : CopyOp) (s : State) : (completeCopy c s).rw.place = s.rw.place := by
  simp only [completeCopy]
  (repeat' split) <;> simp

@[simp] theorem finishCopy_place (q : Seq) (s : State) : (finishCopy s q).rw.place = s.rw.place := by
  simp only [finishCopy]
  (repeat' split) <;> simp

@[simp] theorem finishCopies_place (s : State) : (finishCopies s).rw.place = s.rw.place :=
  finishCopies_induction (P := fun t => t.rw.place = s.rw.place) rfl fun _ _ ht _ _ => by simp [ht]

@[simp] theorem damageBank_place (i : BankId) (r : DamageReason) (s : State) :
    (damageBank i r s).rw.place = s.rw.place := by
  rcases damageBank_cases i r s with ⟨-, h⟩ | ⟨-, h⟩ | ⟨-, h⟩ <;> simp [h, giveUpCopying]

@[simp] theorem failWork_place (r : DamageReason) (m g : Option Nat) (s : State) :
    (failWork r m g s).rw.place = s.rw.place := by
  simp only [failWork]
  split <;> simp

@[simp] theorem completePass_place (n : Nat) (o : UpOutcome) (bs : List Byte) (x : Option Bool) (s : State) :
    (completePass n o bs x s).rw.place = s.rw.place := by
  simp only [completePass]
  (repeat' split) <;> simp

@[simp] theorem requestOkay_place (t : Tag) (r : Response) (s : State) : (requestOkay t r s).rw.place = s.rw.place := by
  unfold requestOkay
  split <;> simp [copyReadOkay]

@[simp] theorem requestFailed_place (t : Tag) (k : FaultKind) (r : DamageReason) (s : State) :
    (requestFailed t k r s).rw.place = s.rw.place := by
  unfold requestFailed
  split <;> simp [copyReadFailed, recordFailed]

@[simp] theorem takeResponse_place (d : DsResult) (r : Response) (s : State) :
    (takeResponse d r s).rw.place = s.rw.place := by
  rcases takeResponse_cases d r s with ⟨-, h⟩ | ⟨_, -, -, h⟩ | ⟨_, _, _, -, -, ⟨-, h⟩ | ⟨-, h⟩⟩ <;> simp [h]

@[simp] theorem expireResponse_place (n : Nat) (s : State) : (expireResponse n s).rw.place = s.rw.place := by
  rcases expireResponse_cases n s with h | ⟨_, _, _, -, -, -, h⟩ <;> simp [h]

@[simp] theorem expireHold_place (n : Nat) (s : State) : (expireHold n s).rw.place = s.rw.place := by
  simp only [expireHold]
  (repeat' split) <;> simp

@[simp] theorem portReset_place (s : State) : (portReset s).rw.place = s.rw.place := by
  simp only [portReset]
  exact (foldl_frame (·.rw.place) (by simp) _ _).trans ((foldl_frame (·.rw.place) (by simp) _ _).trans (by simp))

@[simp] theorem powerWarning_place (s : State) : (powerWarning s).rw.place = s.rw.place := by
  simp only [powerWarning]
  (repeat' split) <;> simp

theorem reservePendingEnd_cases (s : State) :
    reservePendingEnd s = s ∨ reservePendingEnd s = reserveEnd { s with rw := { s.rw with pendingEnd := none } } := by
  unfold reservePendingEnd
  split
  · exact .inr rfl
  · exact .inl rfl

@[simp] theorem reservePendingEnd_place (s : State) : (reservePendingEnd s).rw.place = s.rw.place := by
  rcases reservePendingEnd_cases s with h | h <;> simp [h]

@[simp] theorem reservePendingEnd_frame (s : State) :
    (reservePendingEnd s).wu = s.wu ∧ (reservePendingEnd s).ju = s.ju ∧ (reservePendingEnd s).ec = s.ec ∧
      (reservePendingEnd s).pending = s.pending := by
  rcases reservePendingEnd_cases s with h | h <;> simp [h]

/-- RELEASE_SLOTS changes nothing, or advances the release index, reserves the END record that waits and starts copies
(R110). -/
theorem releaseSlots_cases (n : Nat) (s : State) :
    (releaseSlots n s).2 = s ∨
      (releaseSlots n s).2 =
        startCopies (reservePendingEnd { s with rw := { s.rw with release := s.rw.release + BitVec.ofNat 32 n } }) := by
  unfold releaseSlots
  split
  · exact .inl rfl
  · split
    · exact .inl rfl
    · split
      · exact .inl rfl
      · exact .inr rfl

@[simp] theorem releaseSlots_place (n : Nat) (s : State) : (releaseSlots n s).2.rw.place = s.rw.place := by
  rcases releaseSlots_cases n s with h | h <;> simp [h]

end Sys2Proof.Machine


/-! # The table commands: what each can do to the tables (R2, R4, R13 to R21, R98, R99) -/

namespace Sys2Proof.Machine

open Sys2Proof.Safety

theorem setMode_cases (m : Nat) (s : State) :
    (setMode m s).2 = s ∨ (setMode m s).2 = { s with wu := { s.wu with mode := .guarded } } ∨
      (s.ec.journal = .off ∧ s.ju.bankA.state = .free ∧ s.ju.bankB.state = .free ∧
        (setMode m s).2 = { s with wu := { s.wu with mode := .transparent } }) := by
  unfold setMode
  split
  · exact .inl rfl
  · exact .inr (.inl rfl)
  · split
    · rename_i h
      simp only [bothFree, Bool.and_eq_true, decide_eq_true_eq] at h
      exact .inr (.inr ⟨h.1, h.2.1, h.2.2, rfl⟩)
    · exact .inl rfl

theorem anyActive_iff {wu : WindowUnit} : anyActive wu = true ↔ ∃ n w, windowAt wu n = some w := by
  simp only [anyActive, List.any_eq_true, Vector.mem_toList_iff, windowAt]
  constructor
  · rintro ⟨x, hx, hs⟩
    obtain ⟨w, rfl⟩ := Option.isSome_iff_exists.1 hs
    obtain ⟨n, hn⟩ := Vector.mem_iff_getElem?.1 hx
    exact ⟨n, w, by simp [hn]⟩
  · rintro ⟨n, w, hw⟩
    exact ⟨some w, Vector.mem_iff_getElem?.2 ⟨n, Option.join_eq_some_iff.1 hw⟩, rfl⟩

theorem setMemoryLimit_cases (l : Nat) (s : State) :
    (setMemoryLimit l s).2 = s ∨
      (1 ≤ l ∧ l ≤ 2 ^ 28 ∧ (∀ n, windowAt s.wu n = none) ∧ s.rw.place = none ∧
        (setMemoryLimit l s).2 = { s with wu := { s.wu with memoryLimit := l } }) := by
  unfold setMemoryLimit
  split
  · exact .inl rfl
  · rename_i hl
    split
    · exact .inl rfl
    · rename_i hidle
      simp only [anyActive_iff, not_or, not_exists, Option.not_isSome_iff_eq_none, Config.granuleSpace] at hl hidle
      exact .inr ⟨by omega, by omega, fun n => Option.eq_none_iff_forall_ne_some.2 (hidle.1 n), hidle.2, rfl⟩

theorem numberOr255_some {bound n : Nat} {d : Option Nat} (h : numberOr255 bound n = some d) : ∀ x, d = some x → x < bound := by
  unfold numberOr255 at h
  split at h
  · rintro x rfl; cases h; assumption
  · split at h
    · rintro x rfl; cases h
    · cases h

theorem mapInitiator_cases (i d : Nat) (s : State) :
    (mapInitiator i d s).2 = s ∨
      ∃ x, (∀ y, x = some y → y ≤ 15) ∧
        (mapInitiator i d s).2 = { s with wu := { s.wu with domainMap := s.wu.domainMap.setIfInBounds i x } } := by
  unfold mapInitiator
  split
  · exact .inl rfl
  · split
    · exact .inl rfl
    · rename_i x hx
      exact .inr ⟨x, fun y hy => Nat.le_of_lt_succ (numberOr255_some hx y hy), rfl⟩

theorem badEdge_eq_false {a : Nat} : badEdge a = false ↔ a % 4096 = 0 ∧ a ≤ 2 ^ 40 := by
  simp only [badEdge, Bool.or_eq_false_iff, decide_eq_false_iff_not, Decidable.not_not, Nat.not_lt]
  rfl

theorem badExtent_eq_false {n : Nat} : badExtent n = false ↔ 1 ≤ n ∧ n ≤ 65536 := by
  simp [badExtent, Nat.one_le_iff_ne_zero]

theorem modeOf_eq_some {n : Nat} {m : Mode} : modeOf n = some m ↔ n = m.code := by
  rcases n with _ | _ | n <;> cases m <;> simp [modeOf, Mode.code]

theorem growthOf_eq_some {n : Nat} {g : Growth} : growthOf n = some g ↔ n = g.code := by
  rcases n with _ | _ | n <;> cases g <;> simp [growthOf, Growth.code]

theorem keyOf_eq_some {n : Nat} {k : Key} : keyOf n = some k ↔ n = k.code := by
  rcases n with _ | _ | _ | n <;> cases k <;> simp [keyOf, Key.code]

theorem flagOf_eq_some {n : Nat} {b : Bool} : flagOf n = some b ↔ n = b.toNat := by
  rcases n with _ | _ | n <;> cases b <;> simp [flagOf]

theorem Growth.code_le (g : Growth) : g.code ≤ 1 := by cases g <;> decide

theorem Key.code_le (k : Key) : k.code ≤ 2 := by cases k <;> decide

/-- The BAD_PARAM check of INSTALL_WINDOW passes exactly the fields of a window in the ranges of Table 1.3.1 (R15). -/
theorem windowOf_eq_some {d a g e b k j : Nat} {w : Window} :
    windowOf d a g e b k j = some w ↔
      WindowFields w ∧ d = w.domain ∧ a = w.anchor ∧ g = w.growth.code ∧ e = w.extent ∧ b = w.memBase ∧
        k = w.key.code ∧ j = w.journaled.toNat := by
  simp only [← growthOf_eq_some, ← keyOf_eq_some, ← flagOf_eq_some]
  unfold windowOf
  constructor
  · intro h
    split at h
    · cases h
    · rename_i hbad
      simp only [not_or, Bool.not_eq_true, badEdge_eq_false, badExtent_eq_false] at hbad
      obtain ⟨hd, ⟨ha, ha'⟩, ⟨hb, hb'⟩, he, he'⟩ := hbad
      split at h
      · rename_i hg hk hj
        cases h
        exact ⟨⟨by simpa using hd, he, he', ha, ha', hb, hb'⟩, rfl, rfl, hg, rfl, rfl, hk, hj⟩
      · cases h
  · rintro ⟨⟨hd, he, he', ha, ha', hb, hb'⟩, rfl, rfl, hg, rfl, rfl, hk, hj⟩
    have hgood : ¬ (15 < w.domain ∨ badEdge w.anchor = true ∨ badEdge w.memBase = true ∨ badExtent w.extent = true) := by
      simp only [not_or, Bool.not_eq_true, badEdge_eq_false, badExtent_eq_false]
      exact ⟨by omega, ⟨ha, ha'⟩, ⟨hb, hb'⟩, he, he'⟩
    rw [if_neg hgood, hg, hk, hj]

/-- What the checks of R16, R17 and R18 let pass. -/
def Placeable (s : State) (n : Nat) (w : Window) : Prop :=
  Fits s.wu.memoryLimit w ∧ ¬ Overlaps s.wu n w ∧ ¬ RingConflict s.rw.place w

/-- The last three checks of INSTALL_WINDOW and of EXTEND_WINDOW, and the write that they stand before (R14, R19). -/
def placeWindow (n : Nat) (w : Window) (s : State) : Answer × State :=
  if !rangeFits s.wu.memoryLimit w then refuse .range s
  else if overlapsOther s.wu n w then refuse .overlap s
  else if ringConflict s.rw.place w then refuse .ringConflict s
  else taken [] (setWindow n (some w) s)

theorem placeWindow_range {n : Nat} {w : Window} {s : State} (h : ¬ Fits s.wu.memoryLimit w) :
    placeWindow n w s = refuse .range s := by
  simp [placeWindow, rangeFits_iff.not.2 h]

theorem placeWindow_overlap {n : Nat} {w : Window} {s : State} (h : Fits s.wu.memoryLimit w) (ho : Overlaps s.wu n w) :
    placeWindow n w s = refuse .overlap s := by
  simp [placeWindow, rangeFits_iff.2 h, overlapsOther_iff.2 ho]

theorem placeWindow_ringConflict {n : Nat} {w : Window} {s : State} (h : Fits s.wu.memoryLimit w)
    (ho : ¬ Overlaps s.wu n w) (hr : RingConflict s.rw.place w) : placeWindow n w s = refuse .ringConflict s := by
  simp [placeWindow, rangeFits_iff.2 h, overlapsOther_iff.not.2 ho, ringConflict_iff.2 hr]

theorem placeWindow_taken {n : Nat} {w : Window} {s : State} (h : Placeable s n w) :
    placeWindow n w s = taken [] (setWindow n (some w) s) := by
  obtain ⟨hf, ho, hr⟩ := h
  simp [placeWindow, rangeFits_iff.2 hf, overlapsOther_iff.not.2 ho, ringConflict_iff.not.2 hr]

theorem placeWindow_cases (n : Nat) (w : Window) (s : State) :
    (placeWindow n w s).2 = s ∨ (Placeable s n w ∧ (placeWindow n w s).2 = setWindow n (some w) s) := by
  by_cases hf : Fits s.wu.memoryLimit w
  · by_cases ho : Overlaps s.wu n w
    · exact .inl (by rw [placeWindow_overlap hf ho]; rfl)
    · by_cases hr : RingConflict s.rw.place w
      · exact .inl (by rw [placeWindow_ringConflict hf ho hr]; rfl)
      · exact .inr ⟨⟨hf, ho, hr⟩, by rw [placeWindow_taken ⟨hf, ho, hr⟩]; rfl⟩
  · exact .inl (by rw [placeWindow_range hf]; rfl)

theorem installWindow_cases (n d a g e b k j : Nat) (s : State) :
    (installWindow n d a g e b k j s).2 = s ∨
      ∃ w, WindowFields w ∧ Placeable s n w ∧ (installWindow n d a g e b k j s).2 = setWindow n (some w) s := by
  unfold installWindow
  split
  · exact .inl rfl
  · split
    · exact .inl rfl
    · rename_i w hw
      split
      · exact .inl rfl
      · exact (placeWindow_cases n w s).imp_right fun ⟨hp, he⟩ => ⟨w, (windowOf_eq_some.1 hw).1, hp, he⟩

theorem removeWindow_cases (n : Nat) (s : State) :
    (removeWindow n s).2 = s ∨ (removeWindow n s).2 = setWindow n none s := by
  unfold removeWindow
  split
  · exact .inl rfl
  · exact .inr rfl

theorem extendWindow_cases (n e : Nat) (s : State) :
    (extendWindow n e s).2 = s ∨
      ∃ v, windowAt s.wu n = some v ∧ 1 ≤ e ∧ e ≤ 65536 ∧ Placeable s n { v with extent := e } ∧
        (extendWindow n e s).2 = setWindow n (some { v with extent := e }) s := by
  unfold extendWindow
  split
  · exact .inl rfl
  · rename_i v hv
    dsimp only
    split
    · exact .inl rfl
    · rename_i he
      rw [Bool.not_eq_true, badExtent_eq_false] at he
      exact (placeWindow_cases n { v with extent := e } s).imp_right fun ⟨hp, hs⟩ => ⟨v, hv, he.1, he.2, hp, hs⟩

theorem setKey_cases (n k : Nat) (s : State) :
    (setKey n k s).2 = s ∨
      ∃ v key, windowAt s.wu n = some v ∧ ¬ RingConflict s.rw.place { v with key := key } ∧
        (setKey n k s).2 = setWindow n (some { v with key := key }) s := by
  unfold setKey
  split
  · rename_i v key hv _
    dsimp only
    split
    · exact .inl rfl
    · rename_i hr
      rw [ringConflict_iff] at hr
      exact .inr ⟨v, key, hv, hr, rfl⟩
  · exact .inl rfl

theorem placeConflicts_iff {wu : WindowUnit} {p : RingPlace} :
    placeConflicts wu p = true ↔ ∃ n w, windowAt wu n = some w ∧ RingConflict (some p) w := by
  simp only [← ringConflict_iff, ringConflict, placeConflicts, List.any_eq_true, Vector.mem_toList_iff, windowAt]
  constructor
  · rintro ⟨x, hx, hc⟩
    obtain ⟨n, hn⟩ := Vector.mem_iff_getElem?.1 hx
    cases x with
    | none => cases hc
    | some w => exact ⟨n, w, by simp [hn], hc⟩
  · rintro ⟨n, w, hw, hc⟩
    exact ⟨some w, Vector.mem_iff_getElem?.2 ⟨n, Option.join_eq_some_iff.1 hw⟩, hc⟩

theorem unconfigureRing_cases (s : State) :
    (unconfigureRing s).2 = s ∨ (unconfigureRing s).2 = placeRing none s := by
  unfold unconfigureRing
  split
  · exact .inl rfl
  · exact .inr rfl

theorem configureRing_cases (b n : Nat) (s : State) :
    (configureRing b n s).2 = s ∨ (configureRing b n s).2 = placeRing none s ∨
      ∃ p, p.base % 64 = 0 ∧ 2 ≤ p.capacity ∧ p.capacity ≤ 65535 ∧ p.regionEnd ≤ s.wu.memoryLimit * 4096 ∧
        (∀ n w, windowAt s.wu n = some w → ¬ RingConflict (some p) w) ∧ (configureRing b n s).2 = placeRing (some p) s := by
  unfold configureRing
  dsimp only
  split
  · exact (unconfigureRing_cases s).imp_right .inl
  · split
    · exact .inl rfl
    · split
      · exact .inl rfl
      · split
        · exact .inl rfl
        · split
          · exact .inl rfl
          · rename_i h0 hbad _ hr hc
            simp only [placeConflicts_iff, not_exists, not_and, Config.granuleBytes, Nat.not_lt] at hc hr
            exact .inr (.inr ⟨{ base := b, capacity := n }, by dsimp only; omega, by dsimp only; omega, by dsimp only; omega,
              hr, hc, rfl⟩)

end Sys2Proof.Machine


/-! # The other commands and the pins: what each leaves alone -/

namespace Sys2Proof.Machine

/-! ## Commands that read -/

@[simp] theorem readWindow_state (n : Nat) (s : State) : (readWindow n s).2 = s := by
  unfold readWindow
  split <;> rfl

@[simp] theorem readBank_state (b i : Nat) (s : State) : (readBank b i s).2 = s := by
  unfold readBank
  split
  · rfl
  · split <;> rfl

@[simp] theorem lookupGranule_state (g : Nat) (s : State) : (lookupGranule g s).2 = s := by
  unfold lookupGranule
  split <;> rfl

@[simp] theorem readSpill_state (b i : Nat) (s : State) : (readSpill b i s).2 = s := by
  unfold readSpill
  split
  · rfl
  · split <;> rfl

@[simp] theorem readEpoch_state (a i : Nat) (s : State) : (readEpoch a i s).2 = s := by
  unfold readEpoch
  split
  · rfl
  · split <;> rfl

@[simp] theorem readCounter_state (c : Nat) (s : State) : (readCounter c s).2 = s := by
  unfold readCounter
  split <;> rfl

@[simp] theorem readAlerts_state (s : State) : (readAlerts s).2 = s := rfl

/-! ## Settings -/

@[simp] theorem setTimeouts_frame (r h : Nat) (s : State) :
    (setTimeouts r h s).2.wu = s.wu ∧ (setTimeouts r h s).2.ju = s.ju ∧ (setTimeouts r h s).2.ec = s.ec ∧
      (setTimeouts r h s).2.rw = s.rw ∧ (setTimeouts r h s).2.pending = s.pending := by
  unfold setTimeouts
  split <;> simp [refuse, taken]

@[simp] theorem setCopyShare_frame (n : Nat) (s : State) :
    (setCopyShare n s).2.wu = s.wu ∧ (setCopyShare n s).2.ju = s.ju ∧ (setCopyShare n s).2.ec = s.ec ∧
      (setCopyShare n s).2.rw = s.rw ∧ (setCopyShare n s).2.pending = s.pending := by
  unfold setCopyShare
  split <;> simp [refuse, taken]

@[simp] theorem setRingLow_frame (n : Nat) (s : State) :
    (setRingLow n s).2.wu = s.wu ∧ (setRingLow n s).2.ju = s.ju ∧ (setRingLow n s).2.ec = s.ec ∧
      (setRingLow n s).2.rw.place = s.rw.place ∧ (setRingLow n s).2.pending = s.pending := by
  unfold setRingLow
  split <;> simp [refuse, taken]

@[simp] theorem readFault_frame (s : State) :
    (readFault s).2.wu = s.wu ∧ (readFault s).2.ju = s.ju ∧ (readFault s).2.ec = s.ec ∧ (readFault s).2.rw = s.rw ∧
      (readFault s).2.pending = s.pending := by
  unfold readFault
  split <;> simp [taken]

@[simp] theorem setCounter_frame (c e d w r sc en : Nat) (s : State) :
    (setCounter c e d w r sc en s).2.wu = s.wu ∧ (setCounter c e d w r sc en s).2.ju = s.ju ∧
      (setCounter c e d w r sc en s).2.ec = s.ec ∧ (setCounter c e d w r sc en s).2.rw = s.rw ∧
      (setCounter c e d w r sc en s).2.pending = s.pending := by
  unfold setCounter
  split
  · simp [refuse]
  · split <;> simp [refuse, taken]

@[simp] theorem clearCounter_frame (c : Nat) (s : State) :
    (clearCounter c s).2.wu = s.wu ∧ (clearCounter c s).2.ju = s.ju ∧ (clearCounter c s).2.ec = s.ec ∧
      (clearCounter c s).2.rw = s.rw ∧ (clearCounter c s).2.pending = s.pending := by
  unfold clearCounter
  split <;> simp [refuse, taken]

@[simp] theorem setAlertEnable_state (x : Byte) (s : State) :
    (setAlertEnable x s).2 = { s with au := { s.au with enable := x } } := rfl

@[simp] theorem ackAlerts_state (x : Byte) (s : State) :
    (ackAlerts x s).2 = { s with au := { s.au with pending := s.au.pending &&& ~~~x } } := rfl

/-- RELEASE_SLOTS moves banks and copies and touches no table of WU or EC (R110). -/
@[simp] theorem releaseSlots_frame (n : Nat) (s : State) :
    (releaseSlots n s).2.wu = s.wu ∧ (releaseSlots n s).2.ec = s.ec ∧ (releaseSlots n s).2.pending = s.pending := by
  rcases releaseSlots_cases n s with h | h <;> simp [h]

/-! ## The journal commands -/

/-- JOURNAL_START changes nothing, or opens a FREE bank with an epoch above all (R52, R53). -/
theorem journalStart_cases (n : Nat) (s : State) :
    (journalStart n s).2 = s ∨
      ∃ i, n ≠ 0 ∧ s.wu.mode = .guarded ∧ freeBankId s = some i ∧ s.ec.journal = .off ∧ epochAboveAll n s = true ∧
        (journalStart n s).2 = setJournal .recording (openWith i n s) := by
  unfold journalStart
  split
  · exact .inl rfl
  · split
    · exact .inl rfl
    · split
      · exact .inl rfl
      · split
        · exact .inl rfl
        · split
          · exact .inl rfl
          · split
            · exact .inl rfl
            · split
              · exact .inl rfl
              · rename_i hn _ hm _ _ i hi hj _ he
                have hoff : s.ec.journal = .off := by
                  cases hc : s.ec.journal with
                  | off => rfl
                  | recording => exact absurd hc hj
                exact .inr ⟨i, hn, hm, hi, hoff, by simpa using he, rfl⟩

/-- CUT changes nothing, or is an accepted cut of the OPEN bank with the other bank FREE (R55). -/
theorem cutCommand_cases (s : State) :
    (cutCommand s).2 = s ∨
      ∃ i, openBank s = some i ∧ (bank s i.other).state = .free ∧ (bank s i).epoch.getD 0 < 4294967295 ∧
        (cutCommand s).2 = acceptCut i .command s := by
  unfold cutCommand
  split
  · rename_i i _ hi
    dsimp only
    split
    · exact .inl rfl
    · split
      · exact .inl rfl
      · rename_i hf he
        exact .inr ⟨i, hi, by simpa using hf, Nat.lt_of_not_le he, rfl⟩
  · exact .inl rfl

/-- JOURNAL_STOP changes nothing, or is an accepted cut of the OPEN bank with the other bank FREE (R58). -/
theorem stopCommand_cases (s : State) :
    (stopCommand s).2 = s ∨
      ∃ i, openBank s = some i ∧ (bank s i.other).state = .free ∧ (stopCommand s).2 = acceptCut i .stop s := by
  unfold stopCommand
  split
  · rename_i i _ hi
    split
    · exact .inl rfl
    · rename_i hf
      exact .inr ⟨i, hi, by simpa using hf, rfl⟩
  · exact .inl rfl

/-- A power warning changes nothing, cuts at once, or is kept as Power-Cut Pending behind a cut bank (Table 3.7.1). -/
theorem powerWarning_cases (s : State) :
    powerWarning s = s ∨
      ∃ i, s.ec.journal = .recording ∧ openBank s = some i ∧
        (((bank s i.other).state = .free ∧ (bank s i).epoch.getD 0 < 4294967295 ∧
            powerWarning s = acceptCut i .power s) ∨
          ((bank s i.other).state ≠ .free ∧ powerWarning s = setPowerCutPending true s)) := by
  unfold powerWarning
  split
  · rename_i i hj hi
    split
    · exact .inl rfl
    · split
      · rename_i hf
        split
        · rename_i he; exact .inr ⟨i, hj, hi, .inl ⟨hf, he, rfl⟩⟩
        · exact .inl rfl
      · rename_i hf; exact .inr ⟨i, hj, hi, .inr ⟨hf, rfl⟩⟩
  · exact .inl rfl

@[simp] theorem abandonCommand_state (s : State) :
    (abandonCommand s).2 = setPowerCutPending false (setJournal .off (abandonOpen (abandonCut s))) := rfl

@[simp] theorem abandonCut_frame (s : State) :
    (abandonCut s).wu = s.wu ∧ (abandonCut s).ec = s.ec ∧ (abandonCut s).rw.place = s.rw.place ∧
      (abandonCut s).pending = s.pending := by
  unfold abandonCut
  split <;> simp

@[simp] theorem abandonOpen_frame (s : State) :
    (abandonOpen s).wu = s.wu ∧ (abandonOpen s).rw = s.rw ∧ (abandonOpen s).pending = s.pending := by
  unfold abandonOpen
  split <;> simp

/-! ## The pins -/

@[simp] theorem csFall_frame (s : State) :
    (csFall s).wu = s.wu ∧ (csFall s).ju = s.ju ∧ (csFall s).ec = s.ec ∧ (csFall s).rw = s.rw ∧
      (csFall s).pending = s.pending := by
  simp only [csFall]
  (repeat' split) <;> simp

@[simp] theorem csRise_frame (s : State) :
    (csRise s).wu = s.wu ∧ (csRise s).ju = s.ju ∧ (csRise s).ec = s.ec ∧ (csRise s).rw = s.rw ∧
      (csRise s).pending = s.pending := by
  simp only [csRise]
  split <;> simp

@[simp] theorem releaseReset_frame (s : State) :
    (releaseReset s).wu = s.wu ∧ (releaseReset s).ju = s.ju ∧ (releaseReset s).ec = s.ec ∧ (releaseReset s).rw = s.rw ∧
      (releaseReset s).pending = s.pending := by
  simp only [releaseReset]
  split <;> simp

@[simp] theorem deassertPortReset_frame (s : State) :
    (deassertPortReset s).wu = s.wu ∧ (deassertPortReset s).ju = s.ju ∧ (deassertPortReset s).ec = s.ec ∧
      (deassertPortReset s).rw = s.rw ∧ (deassertPortReset s).pending = s.pending := by
  simp only [deassertPortReset]
  (repeat' split) <;> simp

@[simp] theorem assertPortReset_frame (s : State) :
    (assertPortReset s).wu = s.wu ∧ (assertPortReset s).rw.place = s.rw.place ∧
      (assertPortReset s).pending = s.pending := by
  simp only [assertPortReset]
  (repeat' split) <;> simp

@[simp] theorem assertPwrwarn_frame (s : State) :
    (assertPwrwarn s).wu = s.wu ∧ (assertPwrwarn s).rw.place = s.rw.place ∧ (assertPwrwarn s).pending = s.pending := by
  simp only [assertPwrwarn]
  (repeat' split) <;> simp

@[simp] theorem assertReset_pending (s : State) : (assertReset s).pending = s.pending := by
  unfold assertReset
  split <;> rfl

/-! ## The queue -/

/-- No command touches the queue of those that wait (notes/assumptions/3.md). -/
@[simp] theorem effect_pending (c : Instr) (s : State) : (effect c s).pending = s.pending := by
  cases c
  case acceptance p => cases p <;> simp [effect]
  case setMode m => rcases setMode_cases m s with h | h | ⟨-, -, -, h⟩ <;> simp [effect, h]
  case setMemoryLimit l => rcases setMemoryLimit_cases l s with h | ⟨-, -, -, -, h⟩ <;> simp [effect, h]
  case mapInitiator i d => rcases mapInitiator_cases i d s with h | ⟨_, -, h⟩ <;> simp [effect, h]
  case installWindow n d a g e b k j =>
    rcases installWindow_cases n d a g e b k j s with h | ⟨_, -, -, h⟩ <;> simp [effect, h]
  case removeWindow n => rcases removeWindow_cases n s with h | h <;> simp [effect, h]
  case extendWindow n e => rcases extendWindow_cases n e s with h | ⟨_, -, -, -, -, h⟩ <;> simp [effect, h]
  case setKey n k => rcases setKey_cases n k s with h | ⟨_, _, -, -, h⟩ <;> simp [effect, h]
  case journalStart n => rcases journalStart_cases n s with h | ⟨_, -, -, -, -, -, h⟩ <;> simp [effect, h]
  case cut => rcases cutCommand_cases s with h | ⟨_, -, -, -, h⟩ <;> simp [effect, h]
  case journalStop => rcases stopCommand_cases s with h | ⟨_, -, -, h⟩ <;> simp [effect, h]
  case configureRing b n =>
    rcases configureRing_cases b n s with h | h | ⟨_, -, -, -, -, -, h⟩ <;> simp [effect, h]
  case unconfigureRing => rcases unconfigureRing_cases s with h | h <;> simp [effect, h]
  all_goals simp [effect]

theorem exec_pending {c : Instr} {s t : State} (h : exec c s = .next t) : t.pending = s.pending :=
  exec_preserves (P := fun t => t.pending = s.pending) (fun _ _ ha => by simpa using ha) (fun _ _ ha => by simpa using ha) rfl
    (effect_pending c s) h

end Sys2Proof.Machine


/-! # The Window Table invariant -/

namespace Sys2Proof.Safety

open Sys2Proof.Machine

/-! ## Reading the tables after a write -/

theorem windowAt_congr {u v : WindowUnit} (h : u.windows = v.windows) (n : Nat) : windowAt u n = windowAt v n := by
  simp [windowAt, h]

theorem windowAt_set (wu : WindowUnit) (n m : Nat) (x : Option Window) :
    windowAt { wu with windows := wu.windows.setIfInBounds n x } m =
      if n = m ∧ n < 64 then x else windowAt wu m := by
  simp only [windowAt, Vector.getElem?_setIfInBounds]
  by_cases h : n = m
  · subst h
    by_cases hn : n < 64
    · simp [hn]
    · simp [hn]
  · simp [h]

theorem domainOf_set (wu : WindowUnit) (i j : Nat) (x : Option Nat) :
    domainOf { wu with domainMap := wu.domainMap.setIfInBounds i x } j =
      if i = j ∧ i < 64 then x else domainOf wu j := by
  simp only [domainOf, Vector.getElem?_setIfInBounds]
  by_cases h : i = j
  · subst h
    by_cases hn : i < 64
    · simp [hn]
    · simp [hn]
  · simp [h]

/-- An entry of the table after a write is the entry written or one of the old entries. -/
theorem windowAt_setWindow {s : State} {n m : Nat} {x : Option Window} {v : Window}
    (h : windowAt (setWindow n x s).wu m = some v) : (m = n ∧ x = some v) ∨ (m ≠ n ∧ windowAt s.wu m = some v) := by
  rw [setWindow_wu, windowAt_set] at h
  split at h
  · rename_i hnm; exact .inl ⟨hnm.1.symm, h⟩
  · rename_i hnm
    refine .inr ⟨?_, h⟩
    rintro rfl
    exact hnm ⟨rfl, windowAt_lt h⟩

/-! ## The checks and the tables they read -/

theorem meet_symm {a b c d : Nat} (h : Meet a b c d) : Meet c d a b := ⟨h.2, h.1⟩

/-- R17 reads the window's domain and host range alone. -/
theorem overlaps_congr {wu : WindowUnit} {n : Nat} {v w : Window} (hd : w.domain = v.domain) (hl : w.hostLow = v.hostLow)
    (he : w.hostEnd = v.hostEnd) : Overlaps wu n w ↔ Overlaps wu n v := by
  simp only [Overlaps, hd, hl, he]

theorem overlaps_wu_congr {u v : WindowUnit} (h : u.windows = v.windows) {n : Nat} {w : Window} :
    Overlaps u n w ↔ Overlaps v n w := by
  simp only [Overlaps, windowAt_congr h]

/-- The invariant reads the tables of WU and the place of the ring alone. -/
theorem WindowInv.congr {s t : State} (h : WindowInv s) (hl : t.wu.memoryLimit = s.wu.memoryLimit)
    (hd : t.wu.domainMap = s.wu.domainMap) (hw : t.wu.windows = s.wu.windows) (hp : t.rw.place = s.rw.place) :
    WindowInv t := by
  have hat : ∀ n, windowAt t.wu n = windowAt s.wu n := windowAt_congr hw
  have hdom : ∀ i, domainOf t.wu i = domainOf s.wu i := fun i => by simp [domainOf, hd]
  refine ⟨hl ▸ h.limit, fun i d => ?_, fun n w => ?_, fun n w => ?_, fun n w => ?_, fun n w => ?_, fun p => ?_⟩
  · rw [hdom]; exact h.domains i d
  · rw [hat]; exact h.fields n w
  · rw [hat, hl]; exact h.fits n w
  · rw [hat, overlaps_wu_congr hw]; exact h.apart n w
  · rw [hat, hp]; exact h.offRing n w
  · rw [hp, hl]; exact h.ring p

theorem WindowInv.of_wu {s t : State} (h : WindowInv s) (hw : t.wu = s.wu) (hp : t.rw.place = s.rw.place) : WindowInv t :=
  h.congr (by rw [hw]) (by rw [hw]) (by rw [hw]) hp

/-! ## Each write to the tables -/

/-- A window that passes the checks joins the table (R14, R19, R20). -/
theorem WindowInv.setWindow_some {s : State} (h : WindowInv s) {n : Nat} {w : Window} (hf : WindowFields w)
    (hp : Placeable s n w) : WindowInv (setWindow n (some w) s) := by
  obtain ⟨hfit, hapart, hring⟩ := hp
  refine ⟨h.limit, h.domains, fun m v hv => ?_, fun m v hv => ?_, fun m v hv => ?_, fun m v hv => ?_, h.ring⟩
  · rcases windowAt_setWindow hv with ⟨-, ⟨⟩⟩ | ⟨-, hv⟩
    exacts [hf, h.fields m v hv]
  · rcases windowAt_setWindow hv with ⟨-, ⟨⟩⟩ | ⟨-, hv⟩
    exacts [hfit, h.fits m v hv]
  · rintro ⟨k, u, hkm, hu, hdom, hmeet⟩
    rcases windowAt_setWindow hv with ⟨rfl, ⟨⟩⟩ | ⟨hmn, hm⟩ <;> rcases windowAt_setWindow hu with ⟨rfl, ⟨⟩⟩ | ⟨hkn, hk⟩
    · exact hkm rfl
    · exact hapart ⟨k, u, hkm, hk, hdom, hmeet⟩
    · exact hapart ⟨m, v, hmn, hm, hdom.symm, meet_symm hmeet⟩
    · exact h.apart m v hm ⟨k, u, hkm, hk, hdom, hmeet⟩
  · rcases windowAt_setWindow hv with ⟨-, ⟨⟩⟩ | ⟨-, hv⟩
    exacts [hring, h.offRing m v hv]

/-- A window that leaves the table makes way (R21). -/
theorem WindowInv.setWindow_none {s : State} (h : WindowInv s) (n : Nat) : WindowInv (setWindow n none s) := by
  have old {m : Nat} {v : Window} (hv : windowAt (setWindow n none s).wu m = some v) : windowAt s.wu m = some v := by
    rcases windowAt_setWindow hv with ⟨-, ⟨⟩⟩ | ⟨-, hv⟩
    exact hv
  exact ⟨h.limit, h.domains, fun m v hv => h.fields m v (old hv), fun m v hv => h.fits m v (old hv),
    fun m v hv ⟨k, u, hkm, hu, hdu⟩ => h.apart m v (old hv) ⟨k, u, hkm, old hu, hdu⟩,
    fun m v hv => h.offRing m v (old hv), h.ring⟩

/-- A key is no part of a window's ranges (R20). -/
theorem WindowInv.placeable_key {s : State} (h : WindowInv s) {n : Nat} {v : Window} {key : Key}
    (hv : windowAt s.wu n = some v) (hr : ¬ RingConflict s.rw.place { v with key := key }) :
    Placeable s n { v with key := key } :=
  ⟨h.fits n v hv, fun ho => h.apart n v hv ((overlaps_congr (w := { v with key := key }) rfl rfl rfl).1 ho), hr⟩

/-- The Memory Limit changes while no window is ACTIVE and the ring is not configured (R13). -/
theorem WindowInv.setLimit {s : State} (h : WindowInv s) {l : Nat} (h1 : 1 ≤ l) (h2 : l ≤ 2 ^ 28)
    (hw : ∀ n, windowAt s.wu n = none) (hp : s.rw.place = none) :
    WindowInv { s with wu := { s.wu with memoryLimit := l } } := by
  have none_at {n : Nat} {w : Window} {P : Prop} (hn : windowAt s.wu n = some w) : P := by simp [hw] at hn
  exact ⟨⟨h1, h2⟩, h.domains, fun _ _ => none_at, fun _ _ => none_at, fun _ _ => none_at, fun _ _ => none_at,
    fun p he => by simp [hp] at he⟩

/-- A Domain Map entry is a domain or UNMAPPED (R4). -/
theorem WindowInv.setDomain {s : State} (h : WindowInv s) {i : Nat} {x : Option Nat} (hx : ∀ d, x = some d → d ≤ 15) :
    WindowInv { s with wu := { s.wu with domainMap := s.wu.domainMap.setIfInBounds i x } } := by
  refine ⟨h.limit, fun j d hj => ?_, h.fields, h.fits, h.apart, h.offRing, h.ring⟩
  rw [domainOf_set] at hj
  split at hj
  · exact hx d hj
  · exact h.domains j d hj

/-- A ring is placed where the checks of R98 allow it, or nowhere (R99). -/
theorem WindowInv.placeRing_none {s : State} (h : WindowInv s) : WindowInv (placeRing none s) :=
  ⟨h.limit, h.domains, h.fields, h.fits, h.apart, fun _ _ _ ⟨_, _, hp, _⟩ => (by cases hp), fun _ hp => by cases hp⟩

theorem WindowInv.placeRing_some {s : State} (h : WindowInv s) {p : RingPlace} (hb : p.base % 64 = 0) (h2 : 2 ≤ p.capacity)
    (h3 : p.capacity ≤ 65535) (he : p.regionEnd ≤ s.wu.memoryLimit * 4096)
    (hc : ∀ n w, windowAt s.wu n = some w → ¬ RingConflict (some p) w) : WindowInv (placeRing (some p) s) :=
  ⟨h.limit, h.domains, h.fields, h.fits, h.apart, hc, fun q hq => by cases hq; exact ⟨hb, h2, h3, he⟩⟩

theorem windowAt_powerOn (pins : Pins) (port : PortState) (q : List Instr) (n : Nat) :
    windowAt (powerOn pins port q).wu n = none := by
  simp only [windowAt, powerOn, resetWindowUnit, Vector.getElem?_replicate]
  split <;> rfl

theorem domainOf_powerOn (pins : Pins) (port : PortState) (q : List Instr) (i : Nat) :
    domainOf (powerOn pins port q).wu i = none := by
  simp only [domainOf, powerOn, resetWindowUnit, Vector.getElem?_replicate]
  split <;> rfl

/-- The tables after power-on reset (R3, R5, R13, R97). -/
theorem windowInv_powerOn (pins : Pins) (port : PortState) (q : List Instr) : WindowInv (powerOn pins port q) where
  limit := ⟨Nat.one_le_two_pow (n := 28), Nat.le_refl (2 ^ 28)⟩
  domains i d hd := by simp [domainOf_powerOn] at hd
  fields n w hw := by simp [windowAt_powerOn] at hw
  fits n w hw := by simp [windowAt_powerOn] at hw
  apart n w hw := by simp [windowAt_powerOn] at hw
  offRing n w hw := by simp [windowAt_powerOn] at hw
  ring p hp := by cases hp

/-! ## Every command keeps the invariant -/

theorem effect_windowInv {c : Instr} {s : State} (h : WindowInv s) : WindowInv (effect c s) := by
  cases c
  case setMode m =>
    rcases setMode_cases m s with he | he | ⟨-, -, -, he⟩ <;> simp only [effect, he]
    exacts [h, h.congr rfl rfl rfl rfl, h.congr rfl rfl rfl rfl]
  case setMemoryLimit l =>
    rcases setMemoryLimit_cases l s with he | ⟨h1, h2, hw, hp, he⟩ <;> simp only [effect, he]
    exacts [h, h.setLimit h1 h2 hw hp]
  case mapInitiator i d =>
    rcases mapInitiator_cases i d s with he | ⟨x, hx, he⟩ <;> simp only [effect, he]
    exacts [h, h.setDomain hx]
  case installWindow n d a g e b k j =>
    rcases installWindow_cases n d a g e b k j s with he | ⟨w, hf, hp, he⟩ <;> simp only [effect, he]
    exacts [h, h.setWindow_some hf hp]
  case removeWindow n =>
    rcases removeWindow_cases n s with he | he <;> simp only [effect, he]
    exacts [h, h.setWindow_none n]
  case extendWindow n e =>
    rcases extendWindow_cases n e s with he | ⟨v, hv, h1, h2, hp, he⟩ <;> simp only [effect, he]
    · exact h
    · obtain ⟨hd, -, -, hrest⟩ := h.fields n v hv
      exact h.setWindow_some ⟨hd, h1, h2, hrest⟩ hp
  case setKey n k =>
    rcases setKey_cases n k s with he | ⟨v, key, hv, hr, he⟩ <;> simp only [effect, he]
    exacts [h, h.setWindow_some (h.fields n v hv) (h.placeable_key hv hr)]
  case configureRing b n =>
    rcases configureRing_cases b n s with he | he | ⟨p, hb, h2, h3, hend, hc, he⟩ <;> simp only [effect, he]
    exacts [h, h.placeRing_none, h.placeRing_some hb h2 h3 hend hc]
  case unconfigureRing =>
    rcases unconfigureRing_cases s with he | he <;> simp only [effect, he]
    exacts [h, h.placeRing_none]
  case rstNAssert =>
    simp only [effect, assertReset]
    split
    exacts [windowInv_powerOn .., h]
  case acceptance p => cases p <;> exact h.of_wu (by simp [effect]) (by simp [effect])
  case journalStart n =>
    rcases journalStart_cases n s with he | ⟨i, -, -, -, -, -, he⟩ <;>
      exact h.of_wu (by simp [effect, he]) (by simp [effect, he])
  case cut =>
    rcases cutCommand_cases s with he | ⟨i, -, -, -, he⟩ <;> exact h.of_wu (by simp [effect, he]) (by simp [effect, he])
  case journalStop =>
    rcases stopCommand_cases s with he | ⟨i, -, -, he⟩ <;> exact h.of_wu (by simp [effect, he]) (by simp [effect, he])
  all_goals exact h.of_wu (by simp [effect]) (by simp [effect])

theorem exec_windowInv {c : Instr} {s t : State} (h : WindowInv s) (ht : exec c s = .next t) : WindowInv t :=
  exec_preserves (fun _ _ ha => ha.of_wu (by simp) (by simp)) (fun _ _ ha => ha.of_wu (by simp) (by simp)) h
    (effect_windowInv h) ht

/-- Settles O57: the invariant reads WU's tables and the ring's place, and every write to them is behind its checks. -/
theorem windowInvariantKept : Obligations.WindowInvariantKept := by
  intro s t hs ht
  rcases step_cases ht with ⟨-, rfl⟩ | ⟨c, rest, -, hc⟩
  · exact hs
  · exact exec_windowInv (hs.of_wu (t := setPending rest s) rfl rfl) hc

end Sys2Proof.Safety


/-! # The journal invariant: the two banks as a pair -/

namespace Sys2Proof.Safety

open Sys2Proof.Machine

/-- The journal invariant of a bank and the other one, in whichever order they are named. -/
structure JournalShape (x y : Bank) (journal : Journal) (held : Bool) (mode : Mode) : Prop where
  shape : BankShape x
  shapeOther : BankShape y
  oneOpen : ¬ (x.state = .opened ∧ y.state = .opened)
  oneCut : ¬ (x.state.isCut = true ∧ y.state.isCut = true)
  openIffRecording : journal = .recording ↔ (x.state = .opened ∨ y.state = .opened)
  epochsDiffer : ∀ e, x.epoch = some e → y.epoch ≠ some e
  heldCut : held = true → journal = .recording ∧ (x.state.isCut = true ∨ y.state.isCut = true)
  transparent : mode = .transparent → journal = .off ∧ x.state = .free ∧ y.state = .free

theorem JournalShape.symm {x y : Bank} {j : Journal} {p : Bool} {m : Mode} (h : JournalShape x y j p m) :
    JournalShape y x j p m where
  shape := h.shapeOther
  shapeOther := h.shape
  oneOpen := fun ⟨hy, hx⟩ => h.oneOpen ⟨hx, hy⟩
  oneCut := fun ⟨hy, hx⟩ => h.oneCut ⟨hx, hy⟩
  openIffRecording := h.openIffRecording.trans or_comm
  epochsDiffer := fun e hy hx => h.epochsDiffer e hx hy
  heldCut := fun hp => ⟨(h.heldCut hp).1, (h.heldCut hp).2.symm⟩
  transparent := fun hm => ⟨(h.transparent hm).1, (h.transparent hm).2.2, (h.transparent hm).2.1⟩

/-- The invariant says the same of bank i and the other one as of bank A and bank B. -/
theorem journalInv_iff (i : BankId) {s : State} :
    JournalInv s ↔ JournalShape (bank s i) (bank s i.other) s.ec.journal s.ec.powerCutPending s.wu.mode := by
  have hab : JournalInv s ↔ JournalShape s.ju.bankA s.ju.bankB s.ec.journal s.ec.powerCutPending s.wu.mode :=
    ⟨fun ⟨h1, h2, h3, h4, h5, h6, h7, h8⟩ => ⟨h1, h2, h3, h4, h5, h6, h7, h8⟩,
      fun ⟨h1, h2, h3, h4, h5, h6, h7, h8⟩ => ⟨h1, h2, h3, h4, h5, h6, h7, h8⟩⟩
  cases i with
  | a => exact hab
  | b => exact hab.trans ⟨JournalShape.symm, JournalShape.symm⟩

theorem JournalInv.shape {s : State} (h : JournalInv s) (i : BankId) :
    JournalShape (bank s i) (bank s i.other) s.ec.journal s.ec.powerCutPending s.wu.mode := (journalInv_iff i).1 h

theorem bankShape_free : BankShape freeBank := ⟨fun _ => rfl, fun h => absurd rfl h⟩

theorem bankShape_of_epoch {b : Bank} {e : Nat} (hs : b.state ≠ .free) (he : b.epoch = some e) (h1 : 1 ≤ e)
    (h2 : e ≤ 4294967295) : BankShape b := ⟨fun hf => absurd hf hs, fun _ => ⟨e, he, h1, h2⟩⟩

/-! ## The moves of a single bank -/

/-- What every event but a cut, an end of an epoch, a start and a reset may do to a bank: it stays FREE, OPEN or cut as it was,
with its epoch, and a bank at its FREE values stays at them (R25). -/
structure BankMoves (b c : Bank) : Prop where
  free : c.state = .free ↔ b.state = .free
  opened : c.state = .opened ↔ b.state = .opened
  epoch : c.epoch = b.epoch
  idle : b = freeBank → c = freeBank

theorem BankMoves.refl (b : Bank) : BankMoves b b := ⟨Iff.rfl, Iff.rfl, rfl, id⟩

theorem BankMoves.trans {b c d : Bank} (h : BankMoves b c) (k : BankMoves c d) : BankMoves b d :=
  ⟨k.free.trans h.free, k.opened.trans h.opened, k.epoch.trans h.epoch, fun hb => k.idle (h.idle hb)⟩

/-- Lists and counts of a bank in use may change. -/
theorem BankMoves.of_state {b c : Bank} (hn : b ≠ freeBank) (hs : c.state = b.state) (he : c.epoch = b.epoch) : BankMoves b c :=
  ⟨by rw [hs], by rw [hs], he, fun hb => absurd hb hn⟩

/-- A cut bank goes from one cut state to another. -/
theorem BankMoves.of_cut {b c : Bank} (hb : b.state.isCut = true) (hc : c.state.isCut = true) (he : c.epoch = b.epoch) :
    BankMoves b c := by
  rw [BankState.isCut_iff] at hb hc
  exact ⟨iff_of_false hc.1 hb.1, iff_of_false hc.2 hb.2, he, fun h => absurd (h ▸ rfl) hb.1⟩

theorem BankMoves.cut {b c : Bank} (h : BankMoves b c) : c.state.isCut = true ↔ b.state.isCut = true := by
  rw [BankState.isCut_iff, BankState.isCut_iff, Ne, h.free, Ne, h.opened]

theorem BankMoves.bankShape {b c : Bank} (h : BankMoves b c) (hb : BankShape b) : BankShape c :=
  ⟨fun hf => h.idle (hb.1 (h.free.1 hf)), fun hn => h.epoch ▸ hb.2 (fun hf => hn (h.free.2 hf))⟩

theorem ne_freeBank_of_state {b : Bank} (h : b.state ≠ .free) : b ≠ freeBank := fun he => h (he ▸ rfl)

theorem ne_freeBank_of_epoch {b : Bank} {e : Nat} (h : b.epoch = some e) : b ≠ freeBank := by
  rintro rfl
  cases h

theorem JournalShape.of_moves {x y x' y' : Bank} {j : Journal} {p : Bool} {m : Mode} (h : JournalShape x y j p m)
    (hx : BankMoves x x') (hy : BankMoves y y') : JournalShape x' y' j p m where
  shape := hx.bankShape h.shape
  shapeOther := hy.bankShape h.shapeOther
  oneOpen := by rw [hx.opened, hy.opened]; exact h.oneOpen
  oneCut := by rw [hx.cut, hy.cut]; exact h.oneCut
  openIffRecording := by rw [hx.opened, hy.opened]; exact h.openIffRecording
  epochsDiffer := by rw [hx.epoch, hy.epoch]; exact h.epochsDiffer
  heldCut := by rw [hx.cut, hy.cut]; exact h.heldCut
  transparent := by rw [hx.free, hy.free]; exact h.transparent

/-! ## The moves of the pair -/

/-- An accepted cut that opens the other bank (R56). -/
theorem JournalShape.cut_open {x y x' : Bank} {j : Journal} {p : Bool} {m : Mode} {e : Nat} (h : JournalShape x y j p m)
    (hx : x.state = .opened) (he : x.epoch = some e) (hl : e < 4294967295) (hx' : x'.state = .settling)
    (he' : x'.epoch = x.epoch) :
    JournalShape x' { freeBank with state := .opened, epoch := some (e + 1) } j false m where
  shape := by
    obtain ⟨e', hee, h1, h2⟩ := h.shape.2 (by simp [hx])
    exact bankShape_of_epoch (by simp [hx']) (he'.trans hee) h1 h2
  shapeOther := bankShape_of_epoch (by simp) rfl (by omega) hl
  oneOpen := by simp [hx']
  oneCut := by simp [BankState.isCut]
  openIffRecording := by simp [h.openIffRecording, hx]
  epochsDiffer := by
    intro e1 h1 h2
    rw [he', he] at h1
    cases h1
    simp at h2
  heldCut := by simp
  transparent := fun hm => absurd (h.transparent hm).2.1 (by simp [hx])

/-- An accepted cut that sets the journal OFF (R58). -/
theorem JournalShape.cut_stop {x y x' : Bank} {j : Journal} {p : Bool} {m : Mode} (h : JournalShape x y j p m)
    (hx : x.state = .opened) (hy : y.state = .free) (hx' : x'.state = .settling) (he' : x'.epoch = x.epoch) :
    JournalShape x' y .off false m where
  shape := by
    obtain ⟨e, he, h1, h2⟩ := h.shape.2 (by simp [hx])
    exact bankShape_of_epoch (by simp [hx']) (he'.trans he) h1 h2
  shapeOther := h.shapeOther
  oneOpen := by simp [hx']
  oneCut := by simp [hy, BankState.isCut]
  openIffRecording := by simp [hx', hy]
  epochsDiffer := by rw [he']; exact h.epochsDiffer
  heldCut := by simp
  transparent := fun hm => absurd (h.transparent hm).2.1 (by simp [hx])

/-- The cut bank becomes FREE at the end of its epoch, and the held cut is open again (R67). -/
theorem JournalShape.free_cut {x y : Bank} {j : Journal} {p : Bool} {m : Mode} (h : JournalShape x y j p m)
    (hx : x.state.isCut = true) : JournalShape freeBank y j false m where
  shape := bankShape_free
  shapeOther := h.shapeOther
  oneOpen := by simp [freeBank]
  oneCut := by simp [freeBank, BankState.isCut]
  openIffRecording := by
    have hno := (BankState.isCut_iff.1 hx).2
    rw [h.openIffRecording]
    simp [hno, freeBank]
  epochsDiffer := by simp [freeBank]
  heldCut := by simp
  transparent := fun hm => ⟨(h.transparent hm).1, rfl, (h.transparent hm).2.2⟩

/-- The OPEN bank becomes FREE with the journal OFF (R60). -/
theorem JournalShape.free_open {x y : Bank} {j : Journal} {p : Bool} {m : Mode} (h : JournalShape x y j p m)
    (hx : x.state = .opened) : JournalShape freeBank y .off false m where
  shape := bankShape_free
  shapeOther := h.shapeOther
  oneOpen := by simp [freeBank]
  oneCut := by simp [freeBank, BankState.isCut]
  openIffRecording := by
    have hno : y.state ≠ .opened := fun hy => h.oneOpen ⟨hx, hy⟩
    simp [hno, freeBank]
  epochsDiffer := by simp [freeBank]
  heldCut := by simp
  transparent := fun hm => ⟨rfl, rfl, (h.transparent hm).2.2⟩

/-- With no bank OPEN the journal is OFF and no cut is held. -/
theorem JournalShape.off {x y : Bank} {j : Journal} {p : Bool} {m : Mode} (h : JournalShape x y j p m)
    (hx : x.state ≠ .opened) (hy : y.state ≠ .opened) : JournalShape x y .off false m where
  shape := h.shape
  shapeOther := h.shapeOther
  oneOpen := h.oneOpen
  oneCut := h.oneCut
  openIffRecording := by simp [hx, hy]
  epochsDiffer := h.epochsDiffer
  heldCut := by simp
  transparent := fun hm => ⟨rfl, (h.transparent hm).2⟩

/-- A FREE bank opens, above every epoch held (R53). -/
theorem JournalShape.start {x y : Bank} {p : Bool} {m : Mode} {n : Nat} (h : JournalShape x y .off p m) (hm : m = .guarded)
    (h1 : 1 ≤ n) (h2 : n ≤ 4294967295) (hy : y.epoch.getD 0 < n) :
    JournalShape { freeBank with state := .opened, epoch := some n } y .recording p m where
  shape := bankShape_of_epoch (by simp) rfl h1 h2
  shapeOther := h.shapeOther
  oneOpen := by
    have := h.openIffRecording.2.mt (by simp)
    simp only [not_or] at this
    simp [this.2]
  oneCut := by simp [BankState.isCut]
  openIffRecording := by simp
  epochsDiffer := by
    rintro e ⟨⟩ he
    simp [he] at hy
  heldCut := fun hp => by cases (h.heldCut hp).1
  transparent := by simp [hm]

/-- A power warning behind a cut bank is kept (Table 3.7.1). -/
theorem JournalShape.hold {x y : Bank} {j : Journal} {p : Bool} {m : Mode} (h : JournalShape x y j p m)
    (hj : j = .recording) (hx : x.state = .opened) (hy : y.state ≠ .free) : JournalShape x y j true m :=
  { h with heldCut := fun _ => ⟨hj, .inr (BankState.isCut_iff.2 ⟨hy, fun ho => h.oneOpen ⟨hx, ho⟩⟩)⟩ }

/-- Power-Cut Pending may be dropped at any time. -/
theorem JournalShape.drop {x y : Bank} {j : Journal} {p : Bool} {m : Mode} (h : JournalShape x y j p m) :
    JournalShape x y j false m := { h with heldCut := by simp }

end Sys2Proof.Safety


/-! # The events that keep the journal as it is -/

namespace Sys2Proof.Safety

open Sys2Proof.Machine

/-- What every event but a cut, an end of an epoch, a start, a change of Bridge Mode and a reset leaves of the journal. -/
structure KeepsJournal (s t : State) : Prop where
  mode : t.wu.mode = s.wu.mode
  journal : t.ec.journal = s.ec.journal
  held : t.ec.powerCutPending = s.ec.powerCutPending
  moves : ∀ i, BankMoves (bank s i) (bank t i)

theorem KeepsJournal.refl (s : State) : KeepsJournal s s := ⟨rfl, rfl, rfl, fun i => .refl (bank s i)⟩

theorem KeepsJournal.trans {s t u : State} (h : KeepsJournal s t) (k : KeepsJournal t u) : KeepsJournal s u :=
  ⟨k.mode.trans h.mode, k.journal.trans h.journal, k.held.trans h.held, fun i => (h.moves i).trans (k.moves i)⟩

theorem KeepsJournal.foldl {α : Type} {f : State → α → State} (h : ∀ s x, KeepsJournal s (f s x)) (l : List α) (s : State) :
    KeepsJournal s (l.foldl f s) := by
  induction l generalizing s with
  | nil => exact .refl s
  | cons x xs ih => exact (h s x).trans (ih (f s x))

/-- An event outside WU, JU and EC. -/
theorem KeepsJournal.of_frame {s t : State} (hw : t.wu = s.wu) (hj : t.ju = s.ju) (he : t.ec = s.ec) : KeepsJournal s t :=
  ⟨by rw [hw], by rw [he], by rw [he], fun i => by rw [bank_congr hj]; exact .refl _⟩

theorem KeepsJournal.of_eq {s t : State} (h : t = s) : KeepsJournal s t := h ▸ .refl s

/-- A move of one bank. -/
theorem KeepsJournal.setBank {s : State} {i : BankId} {b : Bank} (h : BankMoves (bank s i) b) :
    KeepsJournal s (setBank i b s) := by
  refine ⟨by simp, by simp, by simp, fun j => ?_⟩
  rcases BankId.eq_or_other i j with rfl | rfl
  · simpa using h
  · simpa using BankMoves.refl _

theorem JournalInv.keeps {s t : State} (h : JournalInv s) (k : KeepsJournal s t) : JournalInv t := by
  rw [journalInv_iff .a, k.mode, k.journal, k.held]
  exact (h.shape .a).of_moves (k.moves .a) (k.moves _)

theorem JournalInv.of_frame {s t : State} (h : JournalInv s) (hw : t.wu = s.wu) (hj : t.ju = s.ju) (he : t.ec = s.ec) :
    JournalInv t := h.keeps (.of_frame hw hj he)

/-! ## Copies and the moves of a cut bank -/

theorem startCopy_keeps (i : BankId) (n : Nat) (byHold : Bool) (s : State) : KeepsJournal s (startCopy i n byHold s) := by
  cases hd : (bank s i).dirty[n]? with
  | none => exact .of_eq (by simp [startCopy, hd])
  | some d =>
    have hn : bank s i ≠ freeBank := by
      intro hf
      simp [hf, freeBank] at hd
    have hju : ∃ u, (startCopy i n byHold s).ju =
        (setBank i { (bank s i).setEntry n .copying with urgent := u } s).ju := by
      refine ⟨(bank s i).urgent + (byHold || decide (0 < d.held)).toNat, ?_⟩
      simp only [startCopy, hd]
      cases i <;> split <;> simp [setBank, bank, Bank.setEntry]
    obtain ⟨u, hju⟩ := hju
    have hset : KeepsJournal s (setBank i { (bank s i).setEntry n .copying with urgent := u } s) :=
      .setBank (.of_state hn rfl rfl)
    exact hset.trans (.of_frame (by simp) hju (by simp))

theorem startCopies_keeps (s : State) : KeepsJournal s (startCopies s) :=
  startCopies_induction (P := KeepsJournal s) (.refl s) fun t i n byHold h _ _ _ _ => h.trans (startCopy_keeps i n byHold t)

theorem closeIfResolved_keeps (i : BankId) (s : State) : KeepsJournal s (closeIfResolved i s) := by
  rcases closeIfResolved_cases i s with h | ⟨hd, -, h⟩
  · exact .of_eq h
  · rw [h, becomeClosing]
    have hmove : KeepsJournal s (setBank i { bank s i with state := .closing } s) :=
      .setBank (.of_cut (by simp [hd, BankState.isCut]) rfl rfl)
    exact hmove.trans (.of_frame (by simp) (by simp) (by simp))

theorem drainIfSettled_keeps (i : BankId) (s : State) : KeepsJournal s (drainIfSettled i s) := by
  rcases drainIfSettled_cases i s with h | ⟨hd, -, h⟩
  · exact .of_eq h
  · rw [h]
    have hmove : KeepsJournal s (setBank i { bank s i with state := .draining } s) :=
      .setBank (.of_cut (by simp [hd, BankState.isCut]) rfl rfl)
    exact (hmove.trans (startCopies_keeps _)).trans (closeIfResolved_keeps i _)

/-- A change of counts and lists in the bank that holds an epoch. -/
theorem setBank_ofEpoch_keeps {e : Nat} {s : State} {i : BankId} {b : Bank} (h : bankOfEpoch e s = some i)
    (hs : b.state = (bank s i).state) (he : b.epoch = (bank s i).epoch) : KeepsJournal s (setBank i b s) :=
  .setBank (.of_state (ne_freeBank_of_epoch (bankOfEpoch_some h)) hs he)

theorem leaveCount_keeps (e : TrackerEntry) (s : State) : KeepsJournal s (leaveCount e s) := by
  rcases leaveCount_cases e s with h | ⟨t, -, h⟩ | h
  · exact .of_eq h
  · rcases countSettled_cases t s with ⟨-, hc⟩ | ⟨i, hi, hc⟩
    · exact .of_eq (h.trans hc)
    · rw [h, hc]; exact setBank_ofEpoch_keeps hi rfl rfl
  · rw [h]; exact ⟨rfl, rfl, rfl, fun i => .refl (bank s i)⟩

theorem drainAfter_keeps (e : TrackerEntry) (s : State) : KeepsJournal s (drainAfter e s) := by
  rcases drainAfter_cases e s with h | ⟨t, -, h⟩
  · exact .of_eq h
  · rcases drainEpoch_cases t s with ⟨-, hd⟩ | ⟨i, -, hd⟩
    · exact .of_eq (h.trans hd)
    · rw [h, hd]; exact drainIfSettled_keeps i s

theorem completeWrite_keeps (e : TrackerEntry) (s : State) : KeepsJournal s (completeWrite e s) :=
  (leaveCount_keeps e s).trans (drainAfter_keeps e _)

/-! ## Releases and the end of a copy -/

theorem uncountHold_keeps (h : HoldEntry) (s : State) : KeepsJournal s (uncountHold h s) := by
  unfold uncountHold
  split
  · exact .refl s
  · split
    · exact .refl s
    · rename_i i hi; exact setBank_ofEpoch_keeps hi rfl rfl

theorem releaseHold_keeps (s : State) (h : HoldEntry) : KeepsJournal s (releaseHold s h) :=
  (uncountHold_keeps h s).trans (.of_frame (by simp [releaseHold]) (by simp [releaseHold]) (by simp [releaseHold]))

theorem releaseScan_keeps (s : State) : KeepsJournal s (releaseScan s) :=
  releaseScan_induction (P := KeepsJournal s) (.of_frame rfl rfl rfl) fun t x h => h.trans (releaseHold_keeps t x)

theorem releaseAll_keeps (s : State) : KeepsJournal s (releaseAll s) :=
  KeepsJournal.trans (t := { s with ce := { s.ce with holdQueue := [] } }) (.of_frame rfl rfl rfl)
    (.foldl releaseHold_keeps _ _)

theorem endEntry_keeps {e : Nat} {i : BankId} {c : CopyOp} {g : Bool} {s : State} (h : bankOfEpoch e s = some i) :
    KeepsJournal s (endEntry i c g s) := by
  unfold endEntry
  cases g with
  | true =>
    have hset : KeepsJournal s
        (setBank i { (bank s i).setEntry c.index .copied with copied := (bank s i).copied + 1 } s) :=
      setBank_ofEpoch_keeps h rfl rfl
    exact hset.trans (.of_frame (by simp) (by simp) (by simp))
  | false => exact setBank_ofEpoch_keeps h rfl rfl

theorem completeCopy_keeps (c : CopyOp) (s : State) : KeepsJournal s (completeCopy c s) := by
  unfold completeCopy
  split
  · exact .of_frame (by simp) (by simp) (by simp)
  · rename_i i hi
    dsimp only
    generalize hg : (!c.abandoned && decide (c.failed = 0)) = good
    have hscan : KeepsJournal s (releaseScan (stopTimers c.granule c.epoch (endEntry i c good s))) :=
      ((endEntry_keeps (c := c) (g := good) hi).trans (.of_frame (by simp) (by simp) (by simp))).trans (releaseScan_keeps _)
    refine (hscan.trans ?_).trans ((startCopies_keeps _).trans (closeIfResolved_keeps i _))
    cases good <;> exact .of_frame (by simp) (by simp) (by simp)

theorem finishCopy_keeps (s : State) (q : Seq) : KeepsJournal s (finishCopy s q) := by
  unfold finishCopy
  split
  · exact .refl s
  · split
    · exact completeCopy_keeps _ s
    · exact .refl s

theorem finishCopies_keeps (s : State) : KeepsJournal s (finishCopies s) := .foldl finishCopy_keeps _ s

/-! ## Damage -/

theorem setReason_keeps {i : BankId} {r : DamageReason} {s : State} (h : (bank s i).state ≠ .free) :
    KeepsJournal s (setReason i r s) := by
  have hset : KeepsJournal s (setBank i { bank s i with damage := some r } s) :=
    .setBank (.of_state (ne_freeBank_of_state h) rfl rfl)
  rcases setReason_cases i r s with ⟨-, he⟩ | ⟨-, he | he⟩ <;> rw [he]
  · exact .refl s
  · exact hset
  · exact hset.trans (.of_frame (by simp) (by simp) (by simp))

@[simp] theorem setReason_state (i : BankId) (r : DamageReason) (s : State) :
    (bank (setReason i r s) i).state = (bank s i).state := by
  rcases setReason_cases i r s with ⟨-, he⟩ | ⟨-, he | he⟩ <;> rw [he]
  · simp
  · rw [bank_congr (t := setBank i { bank s i with damage := some r } s) (by simp), bank_setBank]

theorem giveUpCopying_keeps {i : BankId} {s : State} (h : (bank s i).state.isCut = true) :
    KeepsJournal s (giveUpCopying i s) := by
  have hskip : KeepsJournal s (setBank i (bank s i).skipPending s) := .setBank (.of_cut h rfl rfl)
  exact ((hskip.trans (releaseAll_keeps _)).trans (.of_frame (by simp) (by simp) (by simp))).trans (finishCopies_keeps _)

theorem damageBank_keeps (i : BankId) (r : DamageReason) (s : State) : KeepsJournal s (damageBank i r s) := by
  rcases damageBank_cases i r s with ⟨-, h⟩ | ⟨hc, h⟩ | ⟨hc, h⟩
  · exact .of_eq h
  · rw [h]; exact setReason_keeps (by simp [hc])
  · have hcut : (bank s i).state.isCut = true := by rcases hc with hc | hc <;> simp [hc, BankState.isCut]
    rw [h]
    exact (setReason_keeps (BankState.isCut_iff.1 hcut).1).trans (giveUpCopying_keeps (by simpa using hcut))

theorem failWork_keeps (r : DamageReason) (m g : Option Nat) (s : State) : KeepsJournal s (failWork r m g s) := by
  unfold failWork
  dsimp only
  split
  · exact .of_frame (by simp) (by simp) (by simp)
  · rename_i i _
    exact (damageBank_keeps i r s).trans (.of_frame (by simp) (by simp) (by simp))

theorem copyReadOkay_keeps (q : Seq) (k : Nat) (d : List Byte) (s : State) : KeepsJournal s (copyReadOkay q k d s) :=
  KeepsJournal.trans (.of_frame (by simp) (by simp) (by simp)) (finishCopy_keeps _ q)

theorem copyReadFailed_keeps (q : Seq) (k : Nat) (r : DamageReason) (a : Nat) (s : State) :
    KeepsJournal s (copyReadFailed q k r a s) :=
  (KeepsJournal.trans (.of_frame (by simp) (by simp) (by simp)) (failWork_keeps r _ _ (resolveRead q k none s))).trans
    (finishCopies_keeps _)

theorem abandonCut_keeps (s : State) : KeepsJournal s (abandonCut s) := by
  unfold abandonCut
  split
  · exact .refl s
  · exact damageBank_keeps _ _ s

theorem expireHold_keeps (n : Nat) (s : State) : KeepsJournal s (expireHold n s) := by
  unfold expireHold
  split
  · exact .refl s
  · split
    · exact .refl s
    · rename_i i _
      exact (damageBank_keeps i .holdTimeout s).trans (.of_frame (by simp) (by simp) (by simp))

/-! ## Acceptance -/

theorem tagWrite_keeps (n : Nat) (s : State) : KeepsJournal s (tagWrite n s) := by
  unfold tagWrite
  split
  · rename_i i _ hi
    have hset : KeepsJournal s (setBank i { bank s i with settle := (bank s i).settle + 1 } s) :=
      .setBank (.of_state (ne_freeBank_of_state (by simp [openBank_some hi])) rfl rfl)
    exact hset.trans (.of_frame (by simp) (by simp) (by simp))
  · exact .refl s

theorem markGranule_keeps {i : BankId} {g w : Nat} {d : Option Nat} {s : State} (h : (bank s i).state ≠ .free) :
    KeepsJournal s (markGranule i g w d s) := by
  have hn := ne_freeBank_of_state h
  unfold markGranule
  dsimp only
  split
  · exact .refl s
  · split
    · have hset : KeepsJournal s (setBank i { bank s i with
          dirty := (bank s i).dirty ++ [{ granule := g, state := .pending, held := 0 }]
          listed := (bank s i).listed + 1 } s) := .setBank (.of_state hn rfl rfl)
      exact hset.trans (.of_frame (by simp) (by simp) (by simp))
    · have hset : KeepsJournal s (setBank i { bank s i with spill := spillThrough w g (bank s i).spill } s) :=
        .setBank (.of_state hn rfl rfl)
      split <;> exact hset.trans (.of_frame (by simp) (by simp) (by simp))

theorem markWrite_keeps (r : LookupResult) (g : Nat) (s : State) : KeepsJournal s (markWrite r g s) := by
  unfold markWrite
  split
  · rename_i i w _ hi _
    split
    · exact markGranule_keeps (by simp [openBank_some hi])
    · exact .refl s
  · exact .refl s

theorem holdOwn_keeps {n : Nat} {str : WriteStream} {i : BankId} {d : DirtyEntry} {r : LookupResult} {s : State}
    (h : (bank s i).state ≠ .free) : KeepsJournal s (holdOwn n str i d r s) := by
  have hjoin (x : HoldEntry) : KeepsJournal s (setBank i ((bank s i).changeHeld (· + 1) d.granule) (joinQueue x r s)) := by
    have hju : bank (joinQueue x r s) i = bank s i := bank_congr (by simp) i
    refine KeepsJournal.trans (t := joinQueue x r s) (.of_frame (by simp) (by simp) (by simp)) (.setBank ?_)
    rw [hju]
    exact .of_state (ne_freeBank_of_state h) rfl rfl
  have hpromote (u : State) (g e : Nat) : KeepsJournal u (promoteCopy g e u) := .of_frame (by simp) (by simp) (by simp)
  unfold holdOwn
  dsimp only
  split
  · exact (hjoin _).trans (hpromote _ _ _)
  · exact hjoin _

theorem holdCheck_keeps (n g : Nat) (str : WriteStream) (r : LookupResult) (s : State) :
    KeepsJournal s (holdCheck n g str r s) := by
  rcases holdCheck_cases n g str r s with ⟨i, d, ho, h⟩ | ⟨-, -, h⟩ | ⟨-, -, h⟩ <;> rw [h]
  · have hcut := BankState.isCut_of_isCopyable (holdBank_some (ownHold_some ho).1)
    exact holdOwn_keeps (BankState.isCut_iff.1 hcut).1
  · exact .of_frame (by simp) (by simp) (by simp)
  · exact .of_frame (by simp) (by simp) (by simp)

theorem passWrite_keeps (n : Nat) (t : Txn) (r : LookupResult) (s : State) : KeepsJournal s (passWrite n t r s) := by
  unfold passWrite
  split
  · exact KeepsJournal.trans (t := { s with ec := { s.ec with transparentWrites := s.ec.transparentWrites + 1 } })
      ⟨rfl, rfl, rfl, fun i => .refl (bank s i)⟩ (.of_frame (by simp) (by simp) (by simp))
  · exact ((tagWrite_keeps n s).trans (markWrite_keeps r _ _)).trans (holdCheck_keeps n _ _ r _)

theorem acceptInto_keeps (n : Nat) (d : Direction) (t : Txn) (bs : List Byte) (st : List Bool) (s : State) :
    KeepsJournal s (acceptInto n d t bs st s) := by
  unfold acceptInto
  dsimp only
  split
  · exact .of_frame (by simp) (by simp) (by simp)
  · cases d
    · exact .of_frame (by simp) (by simp) (by simp)
    · exact KeepsJournal.trans (.of_frame (by simp) (by simp) (by simp)) (passWrite_keeps n t _ _)

theorem acceptRead_keeps (t : Txn) (s : State) : KeepsJournal s (acceptRead t s) := by
  rcases acceptRead_cases t s with h | ⟨n, -, -, h⟩ <;> rw [h]
  exacts [.refl s, acceptInto_keeps ..]

theorem acceptStaged_keeps (s : State) : KeepsJournal s (acceptStaged s) := by
  rcases acceptStaged_cases s with h | ⟨w, n, -, -, -, -, h⟩ <;> rw [h]
  · exact .refl s
  · exact KeepsJournal.trans (t := { s with up := { s.up with staging := none } }) (.of_frame rfl rfl rfl)
      (acceptInto_keeps ..)

/-! ## Completions and the port reset -/

theorem completePass_keeps (n : Nat) (o : UpOutcome) (bs : List Byte) (x : Option Bool) (s : State) :
    KeepsJournal s (completePass n o bs x s) := by
  unfold completePass
  split
  · exact .refl s
  · rename_i e _
    dsimp only
    split <;> exact (completeWrite_keeps e s).trans (.of_frame (by simp) (by simp) (by simp))

theorem discardHolds_keeps (s : State) : KeepsJournal s (discardHolds s) :=
  KeepsJournal.trans (t := { s with ce := { s.ce with holdQueue := [] } }) (.of_frame rfl rfl rfl)
    (.foldl (fun s h => uncountHold_keeps h s) _ _)

theorem flagOpenBank_keeps (s : State) : KeepsJournal s (flagOpenBank s) := by
  unfold flagOpenBank
  split
  · exact .refl s
  · rename_i i hi
    exact .setBank (.of_state (ne_freeBank_of_state (by simp [openBank_some hi])) rfl rfl)

theorem portReset_keeps (s : State) : KeepsJournal s (portReset s) := by
  unfold portReset
  dsimp only
  refine KeepsJournal.trans ?_ (.foldl (fun s e => drainAfter_keeps e s) _ _)
  refine KeepsJournal.trans ?_ (.foldl (fun s e => leaveCount_keeps e s) _ _)
  exact ((discardHolds_keeps s).trans (flagOpenBank_keeps _)).trans (.of_frame rfl rfl rfl)

theorem assertPortReset_keeps (s : State) : KeepsJournal s (assertPortReset s) := by
  unfold assertPortReset
  split
  · dsimp only
    have hpin : KeepsJournal s (setPortRstN false s) := .of_frame rfl rfl rfl
    split
    · exact (hpin.trans (portReset_keeps _)).trans (.of_frame (by simp) (by simp) (by simp))
    · exact hpin
  · exact .refl s

theorem releaseSlots_keeps (n : Nat) (s : State) : KeepsJournal s (releaseSlots n s).2 := by
  rcases releaseSlots_cases n s with h | h <;> rw [h]
  · exact .refl s
  · exact KeepsJournal.trans (.of_frame (by simp) (by simp) (by simp)) (startCopies_keeps _)

end Sys2Proof.Safety


/-! # Cuts, the end of an epoch, and every command -/

namespace Sys2Proof.Safety

open Sys2Proof.Machine

theorem bank_setPowerCutPending (v : Bool) (s : State) (i : BankId) : bank (setPowerCutPending v s) i = bank s i :=
  bank_congr rfl i

/-- Power-Cut Pending aside, the journal is in order: the invariant with the held cut dropped. -/
theorem journalInv_dropped_iff (i : BankId) {s : State} :
    JournalInv (setPowerCutPending false s) ↔
      JournalShape (bank s i) (bank s i.other) s.ec.journal false s.wu.mode := by
  rw [journalInv_iff i, bank_setPowerCutPending, bank_setPowerCutPending]
  rfl

theorem JournalInv.dropped {s : State} (h : JournalInv s) : JournalInv (setPowerCutPending false s) :=
  (journalInv_dropped_iff .a).2 (h.shape .a).drop

theorem journalInv_of_dropped {s : State} (h : JournalInv (setPowerCutPending false s))
    (hp : s.ec.powerCutPending = false) : JournalInv s := by
  rw [journalInv_iff .a, hp]
  exact (journalInv_dropped_iff .a).1 h

/-- The state of an accepted cut before the cut bank drains (R56). -/
theorem acceptCut_eq (i : BankId) (c : CutSource) (s : State) :
    ∃ t, acceptCut i c s = drainIfSettled i t ∧ t.wu = s.wu ∧
      bank t i = { bank s i with state := .settling, power := (bank s i).power || decide (c = .power) } ∧
      (c ≠ .stop → bank t i.other = { freeBank with state := .opened, epoch := some ((bank s i).epoch.getD 0 + 1) } ∧
        t.ec.journal = s.ec.journal) ∧
      (c = .stop → bank t i.other = bank s i.other ∧ t.ec.journal = .off) ∧
      t.ec.powerCutPending = (if c = .command then s.ec.powerCutPending else false) := by
  refine ⟨_, rfl, ?_⟩
  cases c
  case stop => cases i <;> exact ⟨rfl, rfl, fun h => absurd rfl h, fun _ => ⟨rfl, rfl⟩, rfl⟩
  all_goals cases i <;> exact ⟨rfl, rfl, fun _ => ⟨rfl, rfl⟩, nofun, rfl⟩

/-- An accepted cut keeps the invariant, whether or not a cut was held: a power cut and a stop drop it, and a command finds none
held. -/
theorem acceptCut_journalInv {i : BankId} {c : CutSource} {s : State} (h : JournalInv (setPowerCutPending false s))
    (hc : c = .command → s.ec.powerCutPending = false) (ho : (bank s i).state = .opened)
    (hf : (bank s i.other).state = .free) (he : c ≠ .stop → (bank s i).epoch.getD 0 < 4294967295) :
    JournalInv (acceptCut i c s) := by
  have hs := (journalInv_dropped_iff i).1 h
  obtain ⟨t, hcut, hwu, hb, hopen, hstop, hheld⟩ := acceptCut_eq i c s
  have hp : t.ec.powerCutPending = false := by
    rw [hheld]
    split
    · rename_i h1; exact hc h1
    · rfl
  rw [hcut]
  refine JournalInv.keeps ((journalInv_iff i).2 ?_) (drainIfSettled_keeps i t)
  rw [hwu, hb, hp]
  by_cases hcs : c = .stop
  · rw [(hstop hcs).1, (hstop hcs).2]
    exact hs.cut_stop ho hf rfl rfl
  · obtain ⟨e, hbe, -, -⟩ := hs.shape.2 (by simp [ho])
    have hlt := he hcs
    rw [hbe, Option.getD_some] at hlt
    rw [(hopen hcs).1, (hopen hcs).2, hbe]
    exact hs.cut_open ho hbe hlt rfl rfl

theorem heldPowerCut_journalInv {s : State} (h : JournalInv (setPowerCutPending false s))
    (hf : ∀ i, openBank s = some i → (bank s i.other).state = .free) : JournalInv (heldPowerCut s) := by
  rcases heldPowerCut_cases s with ⟨hp, he⟩ | ⟨-, he | ⟨i, hi, hl, he⟩⟩ <;> rw [he]
  · exact journalInv_of_dropped h hp
  · exact h
  · exact acceptCut_journalInv h (by simp) (openBank_some hi) (hf i hi) fun _ => hl

/-- Bank i becomes FREE at the end of its epoch; the other one and the journal state stay (R67). -/
theorem endEpoch_banks (i : BankId) (r : LogRecord) (s : State) :
    bank (endEpoch i r s) i = freeBank ∧ bank (endEpoch i r s) i.other = bank s i.other ∧
      (endEpoch i r s).ec.journal = s.ec.journal := by
  cases i <;> exact ⟨rfl, rfl, rfl⟩

theorem closeEpoch_journalInv {s : State} (h : JournalInv s) : JournalInv (closeEpoch s) := by
  rcases closeEpoch_cases s with he | ⟨i, hi, -, he⟩ <;> rw [he]
  · exact h
  · obtain ⟨hfree, hother, hj⟩ := endEpoch_banks i (closedRecord (bank s i) s.rw.account) s
    generalize hu : ({ endEpoch i (closedRecord (bank s i) s.rw.account) s with
      rw := { s.rw with account := emptyAccount } } : State) = u
    have hbank (k : BankId) : bank u k = bank (endEpoch i (closedRecord (bank s i) s.rw.account) s) k :=
      bank_congr (by rw [← hu]) k
    have hju : u.ec.journal = s.ec.journal := by rw [← hu]; exact hj
    have hwu : u.wu = s.wu := by rw [← hu]; simp
    refine heldPowerCut_journalInv ?_ fun k hk => ?_
    · rw [journalInv_dropped_iff i, hbank, hbank, hfree, hother, hju, hwu]
      exact (h.shape i).free_cut (cutBank_some hi)
    · have hopen := openBank_some hk
      rcases BankId.eq_or_other i k with rfl | rfl
      · rw [hbank, hfree] at hopen; cases hopen
      · rw [BankId.other_other, hbank, hfree]; rfl

/-! ## The events that end an epoch -/

theorem finishSlot_journalInv {s : State} (q : Seq) (h : JournalInv s) : JournalInv (finishSlot q s) := by
  simp only [finishSlot]
  split
  · exact closeEpoch_journalInv (h.of_frame (by simp) (by simp) (by simp))
  · exact h.of_frame (by simp) (by simp) (by simp)

theorem resolveArea_journalInv {s : State} (q : Seq) (f : Bool) (h : JournalInv s) : JournalInv (resolveArea q f s) := by
  simp only [resolveArea]
  split
  · exact h
  · split
    · exact h
    · split
      · split
        · exact h.of_frame (by simp) (by simp) (by simp)
        · exact finishSlot_journalInv q (h.of_frame (by simp) (by simp) (by simp))
      · exact h.of_frame (by simp) (by simp) (by simp)

theorem requestOkay_journalInv {s : State} (t : Tag) (r : Response) (h : JournalInv s) : JournalInv (requestOkay t r s) := by
  unfold requestOkay
  cases t.source with
  | passRead n => exact h.keeps (completePass_keeps ..)
  | passWrite n => exact h.keeps (completePass_keeps ..)
  | copyRead q k => exact h.keeps (copyReadOkay_keeps ..)
  | dataWrite q k => exact resolveArea_journalInv q false h
  | endSpill q k => exact resolveArea_journalInv q false h
  | dataHeader q => exact finishSlot_journalInv q h
  | voidHeader q => exact finishSlot_journalInv q h
  | endHeader q => exact finishSlot_journalInv q h

theorem requestFailed_journalInv {s : State} (t : Tag) (k : FaultKind) (r : DamageReason) (h : JournalInv s) :
    JournalInv (requestFailed t k r s) := by
  have hpass (n : Nat) : JournalInv (completePass n .refused [] none (passFault t n k s)) :=
    JournalInv.keeps (h.of_frame (by simp) (by simp) (by simp)) (completePass_keeps ..)
  have hrecord (q : Seq) : JournalInv (recordFailed q t.address s) := h.keeps (failWork_keeps ..)
  unfold requestFailed
  cases t.source with
  | passRead n => exact hpass n
  | passWrite n => exact hpass n
  | copyRead q k => exact h.keeps (copyReadFailed_keeps ..)
  | dataWrite q k => exact resolveArea_journalInv q true (hrecord q)
  | endSpill q k => exact resolveArea_journalInv q true (hrecord q)
  | dataHeader q => exact finishSlot_journalInv q (hrecord q)
  | voidHeader q => exact finishSlot_journalInv q (hrecord q)
  | endHeader q => exact finishSlot_journalInv q (hrecord q)

theorem takeResponse_journalInv {s : State} (d : DsResult) (r : Response) (h : JournalInv s) :
    JournalInv (takeResponse d r s) := by
  have hdrop (n : Nat) : JournalInv (dropTag n s) := h.of_frame rfl rfl rfl
  rcases takeResponse_cases d r s with ⟨-, he⟩ | ⟨t, -, -, he⟩ | ⟨t, _, _, -, -, ⟨-, he⟩ | ⟨-, he⟩⟩ <;> rw [he]
  · exact h.of_frame (by simp) (by simp) (by simp)
  · exact h.of_frame (by simp) (by simp) (by simp)
  · exact requestOkay_journalInv t r (hdrop _)
  · exact requestFailed_journalInv t _ _ (hdrop _)

theorem expireResponse_journalInv {s : State} (n : Nat) (h : JournalInv s) : JournalInv (expireResponse n s) := by
  rcases expireResponse_cases n s with he | ⟨t, _, _, -, -, -, he⟩ <;> rw [he]
  · exact h
  · exact requestFailed_journalInv t _ _ (h.of_frame (by simp) (by simp) (by simp))

/-! ## The commands of the Epoch Controller -/

theorem assertPwrwarn_journalInv {s : State} (h : JournalInv s) : JournalInv (assertPwrwarn s) := by
  have hpin : JournalInv (setPwrwarn true s) := h.of_frame rfl rfl rfl
  have hwarn {u : State} (hu : JournalInv u) : JournalInv (powerWarning u) := by
    rcases powerWarning_cases u with he | ⟨i, hj, hi, ⟨hf, hl, he⟩ | ⟨hn, he⟩⟩ <;> rw [he]
    · exact hu
    · exact acceptCut_journalInv hu.dropped (by simp) (openBank_some hi) hf fun _ => hl
    · have hs := (hu.shape i).hold hj (openBank_some hi) hn
      rw [journalInv_iff i, bank_setPowerCutPending, bank_setPowerCutPending]
      exact hs
  unfold assertPwrwarn
  split
  · exact h
  · dsimp only
    split
    · exact (hwarn hpin).of_frame (by simp) (by simp) (by simp)
    · exact hpin

theorem journalStart_journalInv {s : State} {n : Nat} (h : JournalInv s) (hn : n ≤ 4294967295) :
    JournalInv (journalStart n s).2 := by
  rcases journalStart_cases n s with he | ⟨i, h0, hm, -, hj, hall, he⟩ <;> rw [he]
  · exact h
  · have hs := h.shape i
    rw [hj] at hs
    have habove : (bank s i.other).epoch.getD 0 < n := by
      simp only [epochAboveAll, Bool.and_eq_true, decide_eq_true_eq] at hall
      cases i
      exacts [hall.1.2, hall.1.1]
    rw [journalInv_iff i]
    cases i <;> exact hs.start hm (Nat.one_le_iff_ne_zero.2 h0) hn habove

/-- A CUT finds no cut held, since the other bank is FREE (R63). -/
theorem JournalInv.held_false {s : State} (h : JournalInv s) {i : BankId} (ho : (bank s i).state = .opened)
    (hf : (bank s i.other).state = .free) : s.ec.powerCutPending = false := by
  by_contra hp
  have := ((h.shape i).heldCut (by simpa using hp)).2
  simp [ho, hf, BankState.isCut] at this

theorem cutCommand_journalInv {s : State} (h : JournalInv s) : JournalInv (cutCommand s).2 := by
  rcases cutCommand_cases s with he | ⟨i, hi, hf, hl, he⟩ <;> rw [he]
  · exact h
  · exact acceptCut_journalInv h.dropped (fun _ => h.held_false (openBank_some hi) hf) (openBank_some hi) hf fun _ => hl

theorem stopCommand_journalInv {s : State} (h : JournalInv s) : JournalInv (stopCommand s).2 := by
  rcases stopCommand_cases s with he | ⟨i, hi, hf, he⟩ <;> rw [he]
  · exact h
  · exact acceptCut_journalInv h.dropped (by simp) (openBank_some hi) hf (by simp)

theorem abandonCommand_journalInv {s : State} (h : JournalInv s) : JournalInv (abandonCommand s).2 := by
  have hcut := h.keeps (abandonCut_keeps s)
  rw [abandonCommand_state]
  generalize abandonCut s = u at hcut
  unfold abandonOpen
  cases ho : openBank u with
  | none =>
    have hno (k : BankId) : (bank u k).state ≠ .opened := by simpa using findBank_none.1 ho k
    exact (journalInv_iff .a).2 ((hcut.shape .a).off (hno .a) (hno .b))
  | some i =>
    have hs := (hcut.shape i).free_open (openBank_some ho)
    rw [journalInv_iff i]
    cases i <;> exact hs

theorem setMode_journalInv {s : State} (m : Nat) (h : JournalInv s) : JournalInv (setMode m s).2 := by
  rcases setMode_cases m s with he | he | ⟨hj, ha, hb, he⟩ <;> rw [he]
  · exact h
  · exact { h with transparent := by simp }
  · exact { h with transparent := fun _ => ⟨hj, ha, hb⟩ }

/-- The journal after power-on reset (R24, R49). -/
theorem journalInv_powerOn (pins : Pins) (port : PortState) (q : List Instr) : JournalInv (powerOn pins port q) where
  shapeA := bankShape_free
  shapeB := bankShape_free
  oneOpen := by simp [powerOn, freeBank]
  oneCut := by simp [powerOn, freeBank, BankState.isCut]
  openIffRecording := by simp [powerOn, freeBank]
  epochsDiffer := by simp [powerOn, freeBank]
  heldCut := by simp [powerOn]
  transparent := fun _ => ⟨rfl, rfl, rfl⟩

/-! ## Every command keeps the invariant -/

theorem effect_journalInv {c : Instr} {s : State} (hc : c.wf = true) (h : JournalInv s) : JournalInv (effect c s) := by
  have htables {wu : WindowUnit} (hm : wu.mode = s.wu.mode) : JournalInv { s with wu := wu } :=
    h.keeps ⟨hm, rfl, rfl, fun i => .refl (bank s i)⟩
  cases c
  case setMode m => exact setMode_journalInv m h
  case setMemoryLimit l =>
    rcases setMemoryLimit_cases l s with he | ⟨-, -, -, -, he⟩ <;> simp only [effect, he]
    exacts [h, htables rfl]
  case mapInitiator i d =>
    rcases mapInitiator_cases i d s with he | ⟨x, -, he⟩ <;> simp only [effect, he]
    exacts [h, htables rfl]
  case installWindow n d a g e b k j =>
    rcases installWindow_cases n d a g e b k j s with he | ⟨w, -, -, he⟩ <;> simp only [effect, he]
    exacts [h, htables rfl]
  case removeWindow n =>
    rcases removeWindow_cases n s with he | he <;> simp only [effect, he]
    exacts [h, htables rfl]
  case extendWindow n e =>
    rcases extendWindow_cases n e s with he | ⟨v, -, -, -, -, he⟩ <;> simp only [effect, he]
    exacts [h, htables rfl]
  case setKey n k =>
    rcases setKey_cases n k s with he | ⟨v, key, -, -, he⟩ <;> simp only [effect, he]
    exacts [h, htables rfl]
  case configureRing b n =>
    rcases configureRing_cases b n s with he | he | ⟨p, -, -, -, -, -, he⟩ <;> simp only [effect, he]
    exacts [h, h.of_frame rfl rfl rfl, h.of_frame rfl rfl rfl]
  case unconfigureRing =>
    rcases unconfigureRing_cases s with he | he <;> simp only [effect, he]
    exacts [h, h.of_frame rfl rfl rfl]
  case journalStart n =>
    have hn : n < 256 ^ 4 := by simpa [Instr.wf, fitsBytes] using hc
    exact journalStart_journalInv h (by omega)
  case cut => exact cutCommand_journalInv h
  case journalStop => exact stopCommand_journalInv h
  case abandon => exact abandonCommand_journalInv h
  case releaseSlots n => exact h.keeps (releaseSlots_keeps n s)
  case rstNAssert =>
    simp only [effect, assertReset]
    split
    exacts [journalInv_powerOn .., h]
  case portRstNAssert => exact h.keeps (assertPortReset_keeps s)
  case pwrwarnAssert => exact assertPwrwarn_journalInv h
  case acceptance p =>
    cases p
    exacts [h.keeps (acceptRead_keeps _ s), h.keeps (acceptStaged_keeps s)]
  case responseOkay r => exact takeResponse_journalInv .okay r h
  case responseError r => exact takeResponse_journalInv .error r h
  case lateResponse d r => exact takeResponse_journalInv d r h
  case responseTimerExpiry n => exact expireResponse_journalInv n h
  case holdTimerExpiry n => exact h.keeps (expireHold_keeps n s)
  all_goals exact h.of_frame (by simp [effect]) (by simp [effect]) (by simp [effect])

theorem exec_journalInv {c : Instr} {s t : State} (hc : c.wf = true) (h : JournalInv s) (ht : exec c s = .next t) :
    JournalInv t :=
  exec_preserves (fun _ _ ha => ha.of_frame (by simp) (by simp) (by simp))
    (fun _ _ ha => ha.of_frame (by simp) (by simp) (by simp)) h (effect_journalInv hc h) ht

theorem step_queueInv {s t : State} (h : QueueInv s) (ht : step s = .next t) : QueueInv t := by
  rcases step_cases ht with ⟨-, rfl⟩ | ⟨c, rest, hp, hc⟩
  · exact h
  · intro x hx
    rw [exec_pending hc, setPending_pending] at hx
    exact h x (by simp [hp, hx])

theorem step_journalInv {s t : State} (hq : QueueInv s) (h : JournalInv s) (ht : step s = .next t) : JournalInv t := by
  rcases step_cases ht with ⟨-, rfl⟩ | ⟨c, rest, hp, hc⟩
  · exact h
  · exact exec_journalInv (hq c (by simp [hp])) (h.of_frame (t := setPending rest s) rfl rfl rfl) hc

/-- Settles O55: every event keeps the banks' states and epochs (`KeepsJournal`) but for the cuts, the end of an epoch, the
journal commands, SET_MODE and the reset, each of which makes a move of the pair (`JournalShape`). -/
theorem journalInvariantKept : Obligations.JournalInvariantKept :=
  fun _ _ hq h ht => ⟨step_queueInv hq ht, step_journalInv hq h ht⟩

end Sys2Proof.Safety


/-! # The settings and table commands (chapter 1) -/

namespace Sys2Proof.Safety

open Sys2Proof.Machine

/-! ## Answers -/

/-- A command whose owning block refuses it is refused. -/
theorem refuses_of_body {c : Instr} {body : State → Answer × State} {s : State} {st : Status}
    (hc : exec c s = execute c body s) (hr : s.pins.rstN = true) (hb : body s = refuse st s) : Refuses c st s :=
  hc.trans (execute_refuse hr hb)

/-- A command whose owning block takes it is answered OK. -/
theorem answers_of_body {c : Instr} {body : State → Answer × State} {s t : State} {data : List Byte}
    (hc : exec c s = execute c body s) (hr : s.pins.rstN = true) (hb : body s = taken data t) (hrw : t.rw = s.rw) :
    Answers c .ok data s t := hc.trans (execute_taken hr hb hrw)

/-- One byte holds the number modulo 256. -/
theorem beBytes_one (n : Nat) : beBytes 1 n = [BitVec.ofNat 8 n] := by
  simp [beBytes]

/-! ## SET_MODE -/

theorem setMode_badParam {m : Nat} {s : State} (h : 1 < m) : setMode m s = refuse .badParam s := by
  have hm : modeOf m = none := by
    rw [Option.eq_none_iff_forall_ne_some]
    rintro x hx
    rw [modeOf_eq_some] at hx
    cases x <;> simp [Mode.code] at hx <;> omega
  simp [setMode, hm]

theorem setMode_guarded (s : State) :
    setMode 1 s = taken [1#8] { s with wu := { s.wu with mode := .guarded } } := rfl

theorem setMode_transparent {s : State} (hj : s.ec.journal = .off) (ha : s.ju.bankA.state = .free)
    (hb : s.ju.bankB.state = .free) :
    setMode 0 s = taken [0#8] { s with wu := { s.wu with mode := .transparent } } := by
  simp [setMode, modeOf, hj, bothFree, ha, hb, beBytes_one]

theorem setMode_wrongMode {s : State}
    (h : ¬ (s.ec.journal = .off ∧ s.ju.bankA.state = .free ∧ s.ju.bankB.state = .free)) :
    setMode 0 s = refuse .wrongMode s := by
  simp only [setMode, modeOf, bothFree, Bool.and_eq_true, decide_eq_true_eq, if_neg h]

/-- Settles O9: the four outcomes of SET_MODE, and that the mode in force is always taken. -/
theorem setModeRule : Obligations.SetModeRule := by
  intro m s hr
  refine ⟨fun hm => refuses_of_body rfl hr (setMode_badParam hm), ?_, ?_, ?_, ?_⟩
  · rintro rfl
    exact answers_of_body rfl hr (setMode_guarded s) rfl
  · rintro rfl hj ha hb
    exact answers_of_body rfl hr (setMode_transparent hj ha hb) rfl
  · rintro rfl hn
    exact refuses_of_body rfl hr (setMode_wrongMode hn)
  · rintro rfl hinv
    have hself : ({ s with wu := { s.wu with mode := s.wu.mode } } : State) = s := rfl
    cases hmode : s.wu.mode with
    | guarded =>
      rw [hmode] at hself
      exact answers_of_body rfl hr ((setMode_guarded s).trans (by rw [hself]; rfl)) rfl
    | transparent =>
      obtain ⟨hj, ha, hb⟩ := hinv.transparent hmode
      rw [hmode] at hself
      exact answers_of_body rfl hr ((setMode_transparent hj ha hb).trans (by rw [hself]; rfl)) rfl

/-! ## The Domain Map -/

theorem mapInitiator_badParam {i d : Nat} {s : State} (h : 63 < i ∨ (15 < d ∧ d ≠ 255)) :
    mapInitiator i d s = refuse .badParam s := by
  unfold mapInitiator
  split
  · rfl
  · have hd : numberOr255 16 d = none := by
      rw [numberOr255, if_neg (by omega), if_neg (by omega)]
    rw [hd]

theorem mapInitiator_taken {i d : Nat} {x : Option Nat} {s : State} (hi : i ≤ 63) (hd : numberOr255 16 d = some x) :
    mapInitiator i d s = taken [] { s with wu := { s.wu with domainMap := s.wu.domainMap.setIfInBounds i x } } := by
  rw [mapInitiator, if_neg (by omega), hd]

/-- READ_DOMAIN_MAP gives one byte per initiator (R4). -/
theorem domainMapData_eq (wu : WindowUnit) :
    domainMapData wu = wu.domainMap.toList.map fun d => BitVec.ofNat 8 (d.getD 255) := by
  simp only [domainMapData, beBytes_one, codeOr255]
  exact List.flatMap_pure_eq_map _ _

theorem domainMapData_getElem {wu : WindowUnit} {i : Nat} (h : i ≤ 63) :
    (domainMapData wu)[i]? = some (BitVec.ofNat 8 ((domainOf wu i).getD 255)) := by
  have hi : i < 64 := by omega
  simp [domainMapData_eq, domainOf, Vector.getElem?_eq_getElem hi]

/-- Settles O10: MAP_INITIATOR's checks and its one entry, and the 64 bytes of READ_DOMAIN_MAP. -/
theorem domainMapRule : Obligations.DomainMapRule := by
  intro s hr
  refine ⟨fun i d h => refuses_of_body rfl hr (mapInitiator_badParam h), fun i d hi hd => ?_, fun i hi => ?_,
    domainMapData s.wu, by simp [domainMapData_eq], ?_, fun i hi => domainMapData_getElem hi⟩
  · exact answers_of_body rfl hr (mapInitiator_taken hi (if_pos (by omega))) rfl
  · exact answers_of_body rfl hr (mapInitiator_taken hi rfl) rfl
  · exact answers_of_body (body := fun s => taken (domainMapData s.wu) s) rfl hr rfl rfl

/-! ## The Memory Limit -/

theorem setMemoryLimit_badParam {l : Nat} {s : State} (h : l = 0 ∨ 2 ^ 28 < l) :
    setMemoryLimit l s = refuse .badParam s := if_pos h

theorem setMemoryLimit_notIdle {l : Nat} {s : State} (h1 : 1 ≤ l) (h2 : l ≤ 2 ^ 28)
    (h : (∃ n w, windowAt s.wu n = some w) ∨ s.rw.place ≠ none) : setMemoryLimit l s = refuse .notIdle s := by
  have hrange : ¬ (l = 0 ∨ Config.granuleSpace < l) := by simp only [Config.granuleSpace]; omega
  rw [setMemoryLimit, if_neg hrange, if_pos (h.imp anyActive_iff.2 Option.isSome_iff_ne_none.2)]

theorem setMemoryLimit_taken {l : Nat} {s : State} (h1 : 1 ≤ l) (h2 : l ≤ 2 ^ 28) (hw : ∀ n, windowAt s.wu n = none)
    (hp : s.rw.place = none) :
    setMemoryLimit l s = taken [] { s with wu := { s.wu with memoryLimit := l } } := by
  have hrange : ¬ (l = 0 ∨ Config.granuleSpace < l) := by simp only [Config.granuleSpace]; omega
  have hidle : ¬ (anyActive s.wu = true ∨ s.rw.place.isSome = true) := by
    simp [anyActive_iff, hw, hp]
  rw [setMemoryLimit, if_neg hrange, if_neg hidle]

/-- Settles O11: the limit is a field of WU that the port reset leaves alone, power-on reset sets and lookup does not read. -/
theorem memoryLimitRule : Obligations.MemoryLimitRule := by
  refine ⟨fun l s hr => ⟨?_, ?_, ?_⟩, fun s t h => ?_, fun s t hr h => ?_, fun wu l dir t => rfl⟩
  · exact fun h => refuses_of_body rfl hr (setMemoryLimit_badParam h)
  · exact fun h1 h2 h => refuses_of_body rfl hr (setMemoryLimit_notIdle h1 h2 h)
  · exact fun h1 h2 hw hp => answers_of_body rfl hr (setMemoryLimit_taken h1 h2 hw hp) rfl
  · cases h
    rw [(assertPortReset_frame s).1]
  · cases h
    rw [assertReset, if_pos hr]
    rfl

/-! ## INSTALL_WINDOW -/

theorem installWindow_badParam {n d a g e b k j : Nat} {s : State}
    (h : 63 < n ∨ 15 < d ∨ a % 4096 ≠ 0 ∨ 2 ^ 40 < a ∨ b % 4096 ≠ 0 ∨ 2 ^ 40 < b ∨ 1 < g ∨ e = 0 ∨ 65536 < e ∨ 2 < k ∨ 1 < j) :
    installWindow n d a g e b k j s = refuse .badParam s := by
  unfold installWindow
  split
  · rfl
  · have hnone : windowOf d a g e b k j = none := by
      rw [Option.eq_none_iff_forall_ne_some]
      rintro w hw
      obtain ⟨⟨hd, he, he', ha, ha', hb, hb'⟩, rfl, rfl, rfl, rfl, rfl, rfl, rfl⟩ := windowOf_eq_some.1 hw
      have := w.growth.code_le
      have := w.key.code_le
      have := w.journaled.toNat_le
      omega
    rw [hnone]

/-- Within the field ranges INSTALL_WINDOW asks whether the number is FREE, then whether the window can be placed (R14). -/
theorem installWindow_fields {n : Nat} {w : Window} {s : State} (hn : n ≤ 63) (hw : WindowFields w) :
    installWindow n w.domain w.anchor w.growth.code w.extent w.memBase w.key.code w.journaled.toNat s =
      if (windowAt s.wu n).isSome then refuse .inUse s else placeWindow n w s := by
  rw [installWindow, if_neg (by omega), windowOf_eq_some.2 ⟨hw, rfl, rfl, rfl, rfl, rfl, rfl, rfl⟩]
  rfl

/-- Settles O12: BAD_PARAM, IN_USE, and the three checks of `placeWindow` in their order. -/
theorem installWindowRule : Obligations.InstallWindowRule := by
  intro s hr
  refine ⟨fun n d a g e b k j h => refuses_of_body rfl hr (installWindow_badParam h), ?_⟩
  rintro n w c hn hw rfl
  refine ⟨fun hused => refuses_of_body rfl hr ?_, fun hfree => ?_⟩
  · rw [installWindow_fields hn hw, if_pos (Option.isSome_iff_ne_none.2 hused)]
  · have hplace : installWindow n w.domain w.anchor w.growth.code w.extent w.memBase w.key.code w.journaled.toNat s =
        placeWindow n w s := by rw [installWindow_fields hn hw, hfree]; rfl
    refine ⟨fun hf => ?_, fun hf ho => ?_, fun hf ho hc => ?_, fun hf ho hc => ?_⟩
    · exact refuses_of_body rfl hr (hplace.trans (placeWindow_range hf))
    · exact refuses_of_body rfl hr (hplace.trans (placeWindow_overlap hf ho))
    · exact refuses_of_body rfl hr (hplace.trans (placeWindow_ringConflict hf ho hc))
    · exact answers_of_body rfl hr (hplace.trans (placeWindow_taken ⟨hf, ho, hc⟩)) rfl

/-! ## EXTEND_WINDOW -/

theorem extendWindow_badParam {n e : Nat} {s : State} (h : 63 < n ∨ windowAt s.wu n = none ∨ e = 0 ∨ 65536 < e) :
    extendWindow n e s = refuse .badParam s := by
  cases hv : windowAt s.wu n with
  | none => simp [extendWindow, hv]
  | some v =>
    have hn := windowAt_lt hv
    have hbad : badExtent e = true := by
      rw [← Bool.not_eq_false, badExtent_eq_false]
      simp only [hv, reduceCtorEq, false_or] at h
      omega
    simp [extendWindow, hv, hbad]

theorem extendWindow_place {n e : Nat} {v : Window} {s : State} (hv : windowAt s.wu n = some v) (h1 : 1 ≤ e)
    (h2 : e ≤ 65536) : extendWindow n e s = placeWindow n { v with extent := e } s := by
  simp only [extendWindow, hv, badExtent_eq_false.2 ⟨h1, h2⟩]
  rfl

/-- Writing the window in force changes nothing. -/
theorem setWindow_self {n : Nat} {v : Window} {s : State} (h : windowAt s.wu n = some v) : setWindow n (some v) s = s := by
  have hw : s.wu.windows.setIfInBounds n (some v) = s.wu.windows := by
    apply Vector.ext
    intro m hm
    rw [Vector.getElem_setIfInBounds]
    split
    · rename_i hnm
      subst hnm
      have := Option.join_eq_some_iff.1 h
      rw [Vector.getElem?_eq_getElem hm, Option.some_inj] at this
      exact this.symm
    · rfl
  simp [setWindow, hw]

/-- Settles O13: BAD_PARAM, then `placeWindow` for the window with its new extent; relocation does not read the extent, and a
window of the table passes the checks again. -/
theorem extendWindowRule : Obligations.ExtendWindowRule := by
  intro s n e hr
  refine ⟨fun h => refuses_of_body rfl hr (extendWindow_badParam h), ?_⟩
  rintro v w hv h1 h2 rfl
  have hplace := extendWindow_place hv h1 h2
  refine ⟨fun hf => ?_, fun hf ho => ?_, fun hf ho hc => ?_, fun hf ho hc => ⟨?_, fun h _ _ => rfl⟩, ?_⟩
  · exact refuses_of_body rfl hr (hplace.trans (placeWindow_range hf))
  · exact refuses_of_body rfl hr (hplace.trans (placeWindow_overlap hf ho))
  · exact refuses_of_body rfl hr (hplace.trans (placeWindow_ringConflict hf ho hc))
  · exact answers_of_body rfl hr (hplace.trans (placeWindow_taken ⟨hf, ho, hc⟩)) rfl
  · rintro hinv rfl
    have hself := placeWindow_taken ⟨hinv.fits n v hv, hinv.apart n v hv, hinv.offRing n v hv⟩
    rw [setWindow_self hv] at hself
    exact answers_of_body rfl hr (hplace.trans hself) rfl

/-! ## SET_KEY, REMOVE_WINDOW, READ_WINDOW -/

theorem setKey_badParam {n k : Nat} {s : State} (h : 63 < n ∨ windowAt s.wu n = none ∨ 2 < k) :
    setKey n k s = refuse .badParam s := by
  unfold setKey
  split
  · rename_i v key hv hk
    have := windowAt_lt hv
    have := keyOf_eq_some.1 hk
    have := key.code_le
    simp only [hv, reduceCtorEq, false_or] at h
    omega
  · rfl

theorem setKey_key {n : Nat} {v : Window} {s : State} (key : Key) (hv : windowAt s.wu n = some v) :
    setKey n key.code s =
      if ringConflict s.rw.place { v with key := key } then refuse .ringConflict s
      else taken [] (setWindow n (some { v with key := key }) s) := by
  simp only [setKey, hv, keyOf_eq_some.2 rfl]

/-- Settles O14: BAD_PARAM, RING_CONFLICT, and the key alone replaced. -/
theorem setKeyRule : Obligations.SetKeyRule := by
  intro s n k hr
  refine ⟨fun h => refuses_of_body rfl hr (setKey_badParam h), ?_⟩
  rintro v w key hv rfl rfl
  refine ⟨fun hc => refuses_of_body rfl hr ?_, fun hc => answers_of_body (t := setWindow n _ s) rfl hr ?_ rfl⟩
  · rw [setKey_key key hv, if_pos (ringConflict_iff.2 hc)]
  · rw [setKey_key key hv, if_neg (ringConflict_iff.not.2 hc)]

theorem removeWindow_taken {n : Nat} {s : State} (h : n ≤ 63) : removeWindow n s = taken [] (setWindow n none s) :=
  if_neg (by omega)

theorem readWindow_taken {n : Nat} {s : State} (h : n ≤ 63) : readWindow n s = taken (windowData (windowAt s.wu n)) s :=
  if_neg (by omega)

/-- Settles O15: a number above 63 is refused; REMOVE_WINDOW frees any other, READ_WINDOW gives its 1 or 20 bytes. -/
theorem removeAndReadWindow : Obligations.RemoveAndReadWindow := by
  intro s n hr
  refine ⟨fun hn => ⟨refuses_of_body rfl hr (if_pos hn), refuses_of_body rfl hr (if_pos hn)⟩, fun hn => ⟨?_, fun h0 => ?_, ?_⟩⟩
  · exact answers_of_body rfl hr (removeWindow_taken hn) rfl
  · refine answers_of_body rfl hr ((readWindow_taken hn).trans ?_) rfl
    rw [h0]
    rfl
  · intro w hw
    refine ⟨windowData (some w), ?_, answers_of_body rfl hr ((readWindow_taken hn).trans (by rw [hw])) rfl, ?_⟩
    · rfl
    · simp [windowData, beBytes_one]

end Sys2Proof.Safety


/-! # Lookup (chapter 1) -/

namespace Sys2Proof.Safety

open Sys2Proof.Machine

/-! ## The MALFORMED check -/

theorem malformed_iff {t : Txn} :
    malformed t = true ↔ t.length = 0 ∨ 256 < t.length ∨ 4096 < t.host % 4096 + t.length ∨ t.beats ≠ t.length := by
  simp only [malformed, Bool.or_eq_true, decide_eq_true_eq, or_assoc]
  rfl

theorem lookup_malformed {wu : WindowUnit} {dir : Direction} {t : Txn} (h : malformed t = true) :
    lookup wu dir t =
      { refusal := some .malformed, domain := none, window := none, memory := none, journaled := false } := by
  simp [lookup, h]

theorem lookup_transparent {wu : WindowUnit} {dir : Direction} {t : Txn} (h : malformed t = false)
    (hm : wu.mode = .transparent) :
    lookup wu dir t =
      { refusal := none, domain := none, window := none, memory := some t.host, journaled := false } := by
  simp [lookup, h, hm]

/-! ## The checks of GUARDED mode -/

section Guarded

variable {wu : WindowUnit} {dir : Direction} {t : Txn}

theorem lookup_noDomain (h : malformed t = false) (hm : wu.mode = .guarded) (hd : domainOf wu t.initiator = none) :
    lookup wu dir t =
      { refusal := some .noDomain, domain := none, window := none, memory := none, journaled := false } := by
  simp [lookup, h, hm, hd]

theorem lookup_noWindow {d : Nat} (h : malformed t = false) (hm : wu.mode = .guarded)
    (hd : domainOf wu t.initiator = some d) (hw : findWindow wu d t.host = none) :
    lookup wu dir t =
      { refusal := some .noWindow, domain := some d, window := none, memory := none, journaled := false } := by
  simp [lookup, h, hm, hd, hw]

theorem lookup_window {d n : Nat} {w : Window} (h : malformed t = false) (hm : wu.mode = .guarded)
    (hd : domainOf wu t.initiator = some d) (hf : findWindow wu d t.host = some n) (hw : windowAt wu n = some w) :
    lookup wu dir t =
      { refusal := if w.key.grants dir then none else some .keyDenied, domain := some d, window := some n,
        memory := some (w.relocate t.host), journaled := w.journaled } := by
  simp [lookup, h, hm, hd, hf, hw]

/-- Everything that lookup can find in GUARDED mode past the MALFORMED check. -/
theorem lookup_guarded_cases (dir : Direction) (h : malformed t = false) (hm : wu.mode = .guarded) :
    (lookup wu dir t).memory = none ∧
        ((lookup wu dir t).refusal = some .noDomain ∨ (lookup wu dir t).refusal = some .noWindow) ∨
      ∃ n w, windowAt wu n = some w ∧ w.contains t.host = true ∧
        lookup wu dir t =
          { refusal := if w.key.grants dir then none else some .keyDenied, domain := some w.domain, window := some n,
            memory := some (w.relocate t.host), journaled := w.journaled } := by
  cases hd : domainOf wu t.initiator with
  | none => exact .inl (by simp [lookup_noDomain h hm hd])
  | some d =>
    cases hf : findWindow wu d t.host with
    | none => exact .inl (by simp [lookup_noWindow h hm hd hf])
    | some n =>
      obtain ⟨-, w, hw, rfl, hc⟩ := findWindow_some hf
      exact .inr ⟨n, w, hw, hc, lookup_window h hm hd hf hw⟩

end Guarded

theorem lookup_malformed_iff {wu : WindowUnit} {dir : Direction} {t : Txn} :
    (lookup wu dir t).refusal = some .malformed ↔ malformed t = true := by
  refine ⟨fun hr => ?_, fun h => by rw [lookup_malformed h]⟩
  by_contra h
  rw [Bool.not_eq_true] at h
  cases hm : wu.mode with
  | transparent => simp [lookup_transparent h hm] at hr
  | guarded =>
    rcases lookup_guarded_cases dir h hm with ⟨-, hd | hd⟩ | ⟨n, w, -, -, he⟩
    · simp [hd] at hr
    · simp [hd] at hr
    · rw [he] at hr
      cases hg : w.key.grants dir <;> simp [hg] at hr

/-! ## Relocation -/

theorem contains_iff {w : Window} {h : Nat} : w.contains h = true ↔ w.hostLow ≤ h ∧ h < w.hostEnd := by
  simp [Window.contains]

/-- Relocation moves whole granules: an address keeps its offset in its granule (R7). -/
theorem relocate_mod {w : Window} {limit h : Nat} (hw : WindowFields w) (hf : Fits limit w) (hc : w.contains h = true) :
    w.relocate h % 4096 = h % 4096 := by
  obtain ⟨-, -, -, ha, -, hb, -⟩ := hw
  obtain ⟨hlo, hhi⟩ := contains_iff.1 hc
  unfold Fits at hf
  simp only [Window.relocate, Window.hostLow, Window.hostEnd, Window.bytes, Config.granuleBytes] at *
  cases hg : w.growth <;> simp only [hg] at *
  · omega
  · omega

/-- What fits behind its offset in a granule lies in one granule (R8). -/
theorem one_granule {a n : Nat} (h1 : 1 ≤ n) (h : a % 4096 + n ≤ 4096) : a / 4096 = (a + n - 1) / 4096 := by
  omega

/-- Settles O17: the check itself, and that host and memory address have the same offset in their granules. -/
theorem malformedCheck : Obligations.MalformedCheck := by
  intro s dir t bad hbad
  rw [← malformed_iff] at hbad
  refine ⟨lookup_malformed_iff.trans hbad.symm, fun h => by simp [lookup_malformed (hbad.1 h)], fun h hh => ?_,
    fun h hm => ?_, fun h hinv m hmem => ?_⟩
  all_goals have hgood : malformed t = false := by rw [← Bool.not_eq_true]; exact hbad.not.1 h
  · have hn := malformed_iff.not.1 (hbad.not.1 h)
    exact ⟨by omega, one_granule (by omega) (by omega)⟩
  · exact lookup_transparent hgood hm
  · have hn := malformed_iff.not.1 (hbad.not.1 h)
    have hmod : m % 4096 = t.host % 4096 := by
      cases hm : s.wu.mode with
      | transparent =>
        rw [lookup_transparent hgood hm] at hmem
        cases hmem
        rfl
      | guarded =>
        rcases lookup_guarded_cases dir hgood hm with ⟨hnone, -⟩ | ⟨n, w, hw, hc, he⟩
        · simp [hnone] at hmem
        · rw [he] at hmem
          cases hmem
          exact relocate_mod (hinv.fields n w hw) (hinv.fits n w hw) hc
    exact ⟨one_granule (by omega) (by omega), hmod⟩

/-! ## The window that qualifies -/

theorem findWindow_eq_none {wu : WindowUnit} {d h : Nat}
    (hn : ∀ n w, windowAt wu n = some w → w.domain = d → ¬ (w.hostLow ≤ h ∧ h < w.hostEnd)) : findWindow wu d h = none := by
  rw [Option.eq_none_iff_forall_ne_some]
  intro n hf
  obtain ⟨-, w, hw, hd, hc⟩ := findWindow_some hf
  exact hn n w hw hd (contains_iff.1 hc)

/-- At most one window qualifies, since two ACTIVE windows of a domain never overlap (R10, R17). -/
theorem findWindow_eq_some {s : State} (hinv : WindowInv s) {n d h : Nat} {w : Window} (hw : windowAt s.wu n = some w)
    (hd : w.domain = d) (hlo : w.hostLow ≤ h) (hhi : h < w.hostEnd) : findWindow s.wu d h = some n := by
  cases hf : findWindow s.wu d h with
  | none =>
    have hnone := List.findIdx?_eq_none_iff.1 hf (some w)
    have hmem : some w ∈ s.wu.windows.toList := by
      rw [Vector.mem_toList_iff]
      exact Vector.mem_iff_getElem?.2 ⟨n, Option.join_eq_some_iff.1 hw⟩
    have := hnone hmem
    simp [hd, contains_iff.2 ⟨hlo, hhi⟩] at this
  | some m =>
    obtain ⟨-, v, hv, hvd, hvc⟩ := findWindow_some hf
    obtain ⟨hvlo, hvhi⟩ := contains_iff.1 hvc
    by_contra hne
    have hnm : n ≠ m := fun he => hne (by rw [he])
    exact hinv.apart m v hv ⟨n, w, hnm, hw, hd.trans hvd.symm, by omega, by omega⟩

/-- Settles O18: each check by its own lemma about `lookup`, the one window by `findWindow_eq_some`. -/
theorem guardedLookup : Obligations.GuardedLookup := by
  intro s dir t hm hinv
  refine ⟨fun h => lookup_malformed (malformed_iff.2 h), fun h1 h2 h3 h4 => ?_⟩
  have hgood : malformed t = false := by
    rw [← Bool.not_eq_true, malformed_iff]
    omega
  refine ⟨lookup_noDomain hgood hm, fun d hd => ⟨fun hn => ?_, fun n w hw hwd hlo hhi => ?_⟩⟩
  · exact lookup_noWindow hgood hm hd (findWindow_eq_none hn)
  · refine ⟨_, lookup_window hgood hm hd (findWindow_eq_some hinv hw hwd hlo hhi) hw, ?_, ?_⟩
    · rintro (hk | ⟨hk, rfl⟩) <;> simp [hk, Key.grants]
    · rintro (hk | ⟨hk, rfl⟩) <;> simp [hk, Key.grants]

end Sys2Proof.Safety


/-! # A transaction that lookup refuses (R12, R131, R135, R138) -/

namespace Sys2Proof.Safety

open Sys2Proof.Machine

/-! ## The tracker beside the reports -/

/-- The state with another tracker. -/
def withTracker (l : List TrackerEntry) (s : State) : State := { s with up := { s.up with tracker := l } }

theorem withTracker_self {l : List TrackerEntry} {s : State} (h : s.up.tracker = l) : withTracker l s = s := by
  subst h
  rfl

theorem changeEntry_withTracker (n : Nat) (f : TrackerEntry → TrackerEntry) (l : List TrackerEntry) (s : State) :
    changeEntry n f (withTracker l s) = withTracker (l.map fun e => if e.number = n then f e else e) s := rfl

/-- A report does not read the tracker. -/
theorem report_withTracker (r : Report) (n : Nat) (l : List TrackerEntry) (s : State) :
    report r n (withTracker l s) = withTracker l (report r n s) := by
  unfold report reportBy
  dsimp only [withTracker]
  split <;> rfl

/-- Nor does a fault. -/
theorem reportFault_withTracker (k : FaultKind) (f : FaultFields) (l : List TrackerEntry) (s : State) :
    reportFault k f (withTracker l s) = withTracker l (reportFault k f s) := by
  unfold reportFault
  symm
  exact apply_ite (withTracker l) (s.fq.records.length < Config.faultRecords) _ _

/-! ## The walk along a stream -/

/-- Entries of other streams are passed over; an entry of the stream behind them leaves when it is ANSWERED. -/
theorem splitAnswered_alone {str : Stream} {l : List TrackerEntry} {e : TrackerEntry} (hl : ∀ x ∈ l, x.stream ≠ str)
    (he : e.stream = str) (ha : e.phase = .answered) : splitAnswered str false (l ++ [e]) = (l, [e]) := by
  induction l with
  | nil => simp [splitAnswered, he, ha]
  | cons x xs ih =>
    have hx : x.stream ≠ str := hl x (by simp)
    have hxs := ih fun y hy => hl y (by simp [hy])
    simp [splitAnswered, hx, hxs]

/-- Past an entry that is not ANSWERED nothing of the stream leaves. -/
theorem splitAnswered_blocked (str : Stream) (l : List TrackerEntry) : splitAnswered str true l = (l, []) := by
  induction l with
  | nil => rfl
  | cons x xs ih => by_cases hx : x.stream = str <;> simp [splitAnswered, hx, ih]

/-- Nothing leaves while the first entry of the stream is not ANSWERED. -/
theorem splitAnswered_first {str : Stream} {l : List TrackerEntry} {x : TrackerEntry} {xs : List TrackerEntry}
    (hf : (l.filter fun x => x.stream = str) = x :: xs) (hx : x.phase ≠ .answered) (rest : List TrackerEntry) :
    splitAnswered str false (l ++ rest) = (l ++ rest, []) := by
  induction l with
  | nil => cases hf
  | cons y ys ih =>
    by_cases hy : y.stream = str
    · rw [List.filter_cons_of_pos (by simpa using hy)] at hf
      cases hf
      simp [splitAnswered, hy, hx, splitAnswered_blocked]
    · rw [List.filter_cons_of_neg (by simpa using hy)] at hf
      simp [splitAnswered, hy, ih hf]

/-- A change of the entry that an acceptance has just appended reaches that entry alone. -/
theorem map_append_newest {l : List TrackerEntry} {e : TrackerEntry} {n : Nat} (f : TrackerEntry → TrackerEntry)
    (hl : ∀ x ∈ l, x.number ≠ n) (he : e.number = n) :
    ((l ++ [e]).map fun x => if x.number = n then f x else x) = l ++ [f e] := by
  have hmap : (l.map fun x => if x.number = n then f x else x) = l :=
    (List.map_congr_left fun x hx => if_neg (hl x hx)).trans (List.map_id' l)
  simp [hmap, he]

theorem endResetDrain_accepting {s : State} (h : s.up.portState = .accepting) : endResetDrain s = s :=
  if_neg (by simp [h])

/-! ## The refused entry -/

/-- The zero bytes of a refusal, counted (R135). -/
theorem refusedBytes_eq {dir : Direction} {t : Txn} {zeros : Nat} (hw : dir = .write → zeros = 0)
    (hin : dir = .read → 1 ≤ t.length → t.length ≤ 256 → zeros = t.length)
    (hout : dir = .read → t.length = 0 ∨ 256 < t.length → zeros = t.beats) :
    refusedBytes dir t = List.replicate zeros 0#8 := by
  cases dir with
  | write => simp [refusedBytes, hw rfl]
  | read =>
    simp only [refusedBytes]
    split
    · rename_i h; rw [hin rfl h.1 h.2]
    · rename_i h; rw [hout rfl (by omega)]

/-- The tracker entry that a refusal leaves (R12, R135). -/
def refusedEntry (n : Nat) (dir : Direction) (t : Txn) (data : List Byte) (strobes : List Bool) (mode : Mode)
    (r : LookupResult) : TrackerEntry :=
  { newEntry n dir t data strobes mode r with
    phase := .answered, outcome := some .refused, readData := refusedBytes dir t }

/-- The fields of a refusal's fault record (R158). -/
def refusedFields (dir : Direction) (t : Txn) (r : LookupResult) : FaultFields :=
  { initiator := some t.initiator, direction := some dir, host := some t.host, domain := r.domain, window := r.window,
    memory := r.memory }

/-- The stream of a transaction (R127). -/
def streamOf (dir : Direction) (t : Txn) : Stream := { initiator := t.initiator, otag := t.otag, direction := dir }

/-- A refused acceptance: the two reports, the entry at the end of the tracker, and the return of what may leave. -/
theorem acceptInto_refused {n : Nat} {dir : Direction} {t : Txn} {data : List Byte} {strobes : List Bool} {s : State}
    {r : LookupResult} {k : FaultKind} (hlook : lookup s.wu dir t = r) (hk : r.refusal = some k)
    (hn : ∀ x ∈ s.up.tracker, x.number ≠ n) :
    acceptInto n dir t data strobes s =
      returnStream (streamOf dir t)
        (withTracker (s.up.tracker ++ [refusedEntry n dir t data strobes s.wu.mode r])
          (reportFault k (refusedFields dir t r) (report (acceptedReport dir r) 1 s))) := by
  have haccept : acceptInto n dir t data strobes s =
      refuseEntry n dir t k r (report (acceptedReport dir r) 1
        (withTracker (s.up.tracker ++ [newEntry n dir t data strobes s.wu.mode r]) s)) := by
    simp only [acceptInto, hlook, hk]
    rfl
  rw [haccept, refuseEntry, report_withTracker, changeEntry_withTracker, map_append_newest _ hn rfl,
    reportFault_withTracker]
  rfl

/-- With an earlier entry of its stream not ANSWERED the response waits (R136). -/
theorem returnStream_waits {str : Stream} {s : State} {l rest xs : List TrackerEntry} {x : TrackerEntry}
    (hp : s.up.portState = .accepting) (hf : (l.filter fun x => x.stream = str) = x :: xs) (hx : x.phase ≠ .answered) :
    returnStream str (withTracker (l ++ rest) s) = withTracker (l ++ rest) s := by
  have hsplit : splitAnswered str false (withTracker (l ++ rest) s).up.tracker = (l ++ rest, []) :=
    splitAnswered_first hf hx rest
  rw [returnStream, hsplit]
  exact endResetDrain_accepting hp

/-- Alone in its stream a REFUSED entry leaves at once: its response is put out and reported (R136). -/
theorem returnStream_alone {str : Stream} {s : State} {l : List TrackerEntry} {e : TrackerEntry}
    (hp : s.up.portState = .accepting) (hs : ∀ x ∈ l, x.stream ≠ str) (he : e.stream = str) (ha : e.phase = .answered)
    (ho : e.outcome = some .refused) :
    returnStream str (withTracker (l ++ [e]) s) =
      report { event := .refused, domain := e.domain, window := e.window, direction := some str.direction } 1
        { withTracker l s with out := { s.out with returned := s.out.returned ++
            [{ stream := str, outcome := .refused, data := e.readData, exclusiveResult := e.exclusiveResult }] } } := by
  have hsplit : splitAnswered str false (withTracker (l ++ [e]) s).up.tracker = (l, [e]) :=
    splitAnswered_alone hs he ha
  rw [returnStream, hsplit]
  simp only [List.foldl_cons, List.foldl_nil, returnResponse, ho, Option.getD_some, he]
  exact endResetDrain_accepting (by simpa [withTracker] using hp)

/-- An acceptance that is taken runs `acceptInto` on the state with the staging buffer as it leaves it (R129, R130). -/
theorem exec_acceptance {p : Presented} {dir : Direction} {t : Txn} {data : List Byte} {strobes : List Bool} {n : Nat}
    {s s0 : State} (h : Accepts p dir t data strobes n s s0) :
    exec (.acceptance p) s = .next (acceptInto n dir t data strobes s0) ∧ s0.up.portState = .accepting ∧
      s0.up.tracker = s.up.tracker ∧ s0.wu = s.wu ∧ ∀ x ∈ s.up.tracker, x.number ≠ n := by
  obtain ⟨hr, hport, hfree, hp⟩ := h
  have hmay : mayAccept s = some n := by rw [mayAccept, if_pos hport, hfree]
  have hnew := (freeEntry_some hfree).2
  cases p with
  | read u =>
    obtain ⟨rfl, rfl, rfl, rfl, rfl⟩ := hp
    have hacc : acceptRead t s0 = acceptInto n .read t [] [] s0 := by simp [acceptRead, hmay]
    exact ⟨(event_of_rw hr (by simp)).trans (by rw [hacc]), hport, rfl, rfl, hnew⟩
  | lastBeat =>
    obtain ⟨rfl, hstaged, hq, rfl⟩ := hp
    have hacc : acceptStaged s = acceptInto n .write t data strobes { s with up := { s.up with staging := none } } := by
      simp only [acceptStaged, hstaged, hmay]
      exact if_pos hq
    exact ⟨(event_of_rw hr (by simp)).trans (by rw [hacc]), hport, rfl, rfl, hnew⟩

/-- Settles O31: the refused entry joins the tracker (`acceptInto_refused`), then waits or leaves by the walk of R136. -/
theorem transactionRefused : Obligations.TransactionRefused := by
  intro p dir t data strobes n s s0 u r k zeros str e fields hacc hlook hk hz1 hz2 hz3 hstr he hfields hu
  obtain ⟨hexec, hport, htracker, hwu, hnew⟩ := exec_acceptance hacc
  have hentry : e = refusedEntry n dir t data strobes s0.wu.mode r := by
    rw [he, hstr, hwu, refusedEntry, refusedBytes_eq hz1 hz2 hz3]
    rfl
  have hup : u.up = s0.up := by simp [hu]
  have hinto : acceptInto n dir t data strobes s0 = returnStream str (withTracker (s.up.tracker ++ [e]) u) := by
    rw [acceptInto_refused (by rw [hwu, hlook]) hk (by rw [htracker]; exact hnew), ← hentry, htracker, hu, hfields, hstr]
    rfl
  have hport' : u.up.portState = .accepting := by rw [hup, hport]
  refine ⟨fun x xs hf hx => ?_, fun halone => ?_⟩
  · rw [hexec, hinto, returnStream_waits hport' hf hx]
    rfl
  · rw [hexec, hinto, returnStream_alone hport' halone (by rw [he]) (by rw [he]) (by rw [he]),
      withTracker_self (by rw [hup, htracker]), he, hstr]

end Sys2Proof.Safety


/-! # Power-on reset (R143, R186) -/

namespace Sys2Proof.Safety

open Sys2Proof.Machine

/-! ## While RST_N is low -/

/-- While RST_N is low every row but the release and CS_N_RISE changes no more than a pin's level. -/
theorem exec_low_pins {c : Instr} {s t : State} (hr : s.pins.rstN = false) (hc : c ≠ .rstNRelease) (hcs : c ≠ .csNRise)
    (h : exec c s = .next t) : t = { s with pins := t.pins } ∧ t.pins.rstN = false := by
  cases hp : movesPin c with
  | false =>
    obtain rfl := exec_low hr hp h
    exact ⟨rfl, hr⟩
  | true =>
    cases c
    case rstNRelease => exact absurd rfl hc
    case csNRise => exact absurd rfl hcs
    case rstNAssert =>
      cases h
      rw [assertReset, if_neg (by simp [hr])]
      exact ⟨rfl, hr⟩
    case csNFall =>
      cases h
      unfold csFall
      split <;> simp [setCsN, hr]
    case portRstNAssert =>
      cases h
      unfold assertPortReset
      split <;> simp [setPortRstN, hr]
    case portRstNDeassert =>
      cases h
      unfold deassertPortReset
      split <;> simp [setPortRstN, hr]
    case pwrwarnAssert =>
      cases h
      unfold assertPwrwarn
      split <;> simp [setPwrwarn, hr]
    case pwrwarnDeassert =>
      cases h
      exact ⟨rfl, hr⟩
    all_goals cases hp

/-- Settles O37: the values of `powerOn` are those of the chapters, and `exec_low_pins` says what RST_N low leaves to happen. -/
theorem powerOnResetRule : Obligations.PowerOnResetRule := by
  rintro s port free counter rfl rfl rfl
  refine ⟨fun hr => ⟨?_, ?_⟩, fun hr => ⟨?_, ?_, fun c t hc hcs h => ?_⟩⟩
  · exact congrArg Host.Outcome.next (if_pos hr)
  · exact congrArg Host.Outcome.next (if_pos hr)
  · exact congrArg Host.Outcome.next (if_neg (by simp [hr]))
  · exact congrArg Host.Outcome.next (if_neg (by simp [hr]))
  · obtain ⟨ht, hlow⟩ := exec_low_pins hr hc hcs h
    exact ⟨ht, hlow, by simp [alertDriven, hlow]⟩

/-! ## The invariants after power-on reset -/

theorem listsInv_free : ListsInv freeBank := by
  constructor <;> simp [freeBank]

theorem holdInv_powerOn (pins : Pins) (port : PortState) (q : List Instr) : HoldInv (powerOn pins port q) where
  emptyWithoutBank _ := rfl
  ownListed h hh := by cases hh
  nothingReleasable := rfl

theorem ringInv_powerOn (pins : Pins) (port : PortState) (q : List Instr) : RingInv (powerOn pins port q) where
  unplaced _ := ⟨rfl, rfl, rfl, rfl, rfl⟩
  capacity p hp := by cases hp
  used p hp := by cases hp
  unfilled := by simp [powerOn, resetRingWriter]
  position p hp := by cases hp
  slots p hp := by cases hp
  headNotDone x xs hx := by cases hx
  markerWaits h := by cases h

theorem capacityInv_powerOn (pins : Pins) (port : PortState) (q : List Instr) : CapacityInv (powerOn pins port q) := by
  constructor <;> simp [powerOn, resetDownstreamPort, outstandingTags]

/-- Every invariant holds after power-on reset, whatever the pins, the port's state and the queue (R24, R25, R100, R114, R143). -/
theorem inv_powerOn (pins : Pins) (port : PortState) (q : List Instr) : Inv (powerOn pins port q) where
  journal := journalInv_powerOn pins port q
  hold := holdInv_powerOn pins port q
  dirty := ⟨listsInv_free, listsInv_free⟩
  window := windowInv_powerOn pins port q
  ring := ringInv_powerOn pins port q
  capacity := capacityInv_powerOn pins port q

/-- Settles O60: an assertion of RST_N gives a `powerOn` state, and its release another one. -/
theorem invariantsAtReset : Obligations.InvariantsAtReset := by
  refine ⟨inv_powerOn .., nofun, fun s t u hr ht hu => ?_⟩
  have hassert : t = powerOn { s.pins with rstN := false } (portAtRelease s.pins.portRstN) s.pending := by
    cases ht
    exact if_pos hr
  have hrelease : u = powerOn { s.pins with rstN := true } (portAtRelease s.pins.portRstN) s.pending := by
    cases hu
    rw [hassert]
    rfl
  exact ⟨hassert ▸ inv_powerOn .., hrelease ▸ inv_powerOn ..⟩

end Sys2Proof.Safety


/-! # The tables and their bounds: what each shared operation keeps (O59) -/

namespace Sys2Proof.Safety

open Sys2Proof.Machine

/-! ## The bounds, block by block -/

/-- The tracker's entries have distinct numbers in range (R133). -/
structure TrackerBounds (l : List TrackerEntry) : Prop where
  numbers : (l.map TrackerEntry.number).Nodup
  range : ∀ e ∈ l, e.number < 48

/-- The Hold Queue, the copies in flight and the Hold Limit (R70, R71, R83). -/
structure EngineBounds (ce : CopyEngine) : Prop where
  holds : ce.holdQueue.length ≤ 8
  copies : ce.copies.length ≤ 4
  limit : 1 ≤ ce.holdLimit ∧ ce.holdLimit ≤ 65535

/-- The Fault Queue (R161). -/
structure FaultBounds (fq : FaultQueue) : Prop where
  records : fq.records.length ≤ 8
  lost : fq.lost ≤ 255
  lostWhenFull : 0 < fq.lost → fq.records.length = 8

/-- The tags, the Copy Share with its counter, and the Downstream Response Limit (R146, R147, R150, R151). -/
structure PortBounds (dp : DownstreamPort) : Prop where
  numbers : (dp.tags.map Tag.number).Nodup
  range : ∀ t ∈ dp.tags, t.number < 256
  outstanding : outstandingTags dp ≤ 64
  share : 1 ≤ dp.copyShare ∧ dp.copyShare ≤ 255
  counter : dp.shareCounter ≤ 255
  idle : dp.background = [] → dp.shareCounter = 0
  limit : 1 ≤ dp.responseLimit ∧ dp.responseLimit ≤ 65535

/-- Distinct numbers below a bound are no more than the bound. -/
theorem length_le_of_nodup_lt {l : List Nat} {n : Nat} (hd : l.Nodup) (h : ∀ x ∈ l, x < n) : l.length ≤ n := by
  have hsub : l.Subperm (List.range n) := List.Nodup.subperm hd fun x hx => List.mem_range.2 (h x hx)
  simpa using hsub.length_le

theorem TrackerBounds.length {l : List TrackerEntry} (h : TrackerBounds l) : l.length ≤ 48 := by
  simpa using length_le_of_nodup_lt h.numbers (by simpa using h.range)

theorem PortBounds.tagsLength {dp : DownstreamPort} (h : PortBounds dp) : dp.tags.length ≤ 256 := by
  simpa using length_le_of_nodup_lt h.numbers (by simpa using h.range)

/-- The invariant of the bounds is that of its blocks. -/
theorem capacityInv_iff {s : State} :
    CapacityInv s ↔ TrackerBounds s.up.tracker ∧ EngineBounds s.ce ∧ s.ec.log.length ≤ 16 ∧ FaultBounds s.fq ∧
      PortBounds s.dp := by
  constructor
  · intro h
    exact ⟨⟨h.trackerNumbers, h.trackerRange⟩, ⟨h.holds, h.copies, h.limits.2.2⟩, h.log,
      ⟨h.faults, h.lost, h.lostWhenFull⟩,
      ⟨h.tagNumbers, h.tagRange, h.outstanding, h.share, h.shareCounter, h.shareIdle, h.limits.1, h.limits.2.1⟩⟩
  · rintro ⟨ht, he, hl, hf, hp⟩
    exact ⟨ht.numbers, ht.range, ht.length, he.holds, he.copies, hl, hf.records, hf.lost, hf.lostWhenFull, hp.numbers,
      hp.range, hp.tagsLength, hp.outstanding, hp.share, hp.counter, hp.idle, hp.limit.1, hp.limit.2, he.limit⟩

/-- What an operation does to the tables: the lists of the banks and the bounds of each block stay in order. -/
structure KeepsTables (s t : State) : Prop where
  lists : DirtyInv s → DirtyInv t
  tracker : TrackerBounds s.up.tracker → TrackerBounds t.up.tracker
  engine : EngineBounds s.ce → EngineBounds t.ce
  log : s.ec.log.length ≤ 16 → t.ec.log.length ≤ 16
  faults : FaultBounds s.fq → FaultBounds t.fq
  port : PortBounds s.dp → PortBounds t.dp

theorem KeepsTables.refl (s : State) : KeepsTables s s := ⟨id, id, id, id, id, id⟩

theorem KeepsTables.of_eq {s t : State} (h : t = s) : KeepsTables s t := h ▸ .refl s

theorem KeepsTables.trans {s t u : State} (h : KeepsTables s t) (k : KeepsTables t u) : KeepsTables s u :=
  ⟨k.lists ∘ h.lists, k.tracker ∘ h.tracker, k.engine ∘ h.engine, k.log ∘ h.log, k.faults ∘ h.faults, k.port ∘ h.port⟩

theorem KeepsTables.foldl {α : Type} {f : State → α → State} (h : ∀ s x, KeepsTables s (f s x)) (l : List α) (s : State) :
    KeepsTables s (l.foldl f s) := by
  induction l generalizing s with
  | nil => exact .refl s
  | cons x xs ih => exact (h s x).trans (ih (f s x))

theorem KeepsTables.capacityInv {s t : State} (h : KeepsTables s t) (hs : CapacityInv s) : CapacityInv t := by
  obtain ⟨ht, he, hl, hf, hp⟩ := capacityInv_iff.1 hs
  exact capacityInv_iff.2 ⟨h.tracker ht, h.engine he, h.log hl, h.faults hf, h.port hp⟩

/-! ## The lists of a bank -/

/-- The lists read the granules in their order, the listed count and the spill list. -/
theorem ListsInv.congr {b c : Bank} (h : ListsInv b) (hg : c.dirty.map DirtyEntry.granule = b.dirty.map DirtyEntry.granule)
    (hl : c.listed = b.listed) (hs : c.spill = b.spill) : ListsInv c := by
  have hlen : c.dirty.length = b.dirty.length := by simpa using congrArg List.length hg
  exact ⟨hg ▸ h.listedOnce, hlen ▸ h.listLimit, by rw [hl, hlen, h.listedCount], by rw [hs, hlen]; exact h.spillAtFull,
    hs ▸ h.spilledOnce, hs ▸ h.spillLimit, hs ▸ h.spillRange⟩

theorem dirtyInv_bank {s : State} (h : DirtyInv s) (i : BankId) : ListsInv (bank s i) := by
  cases i
  exacts [h.1, h.2]

theorem dirtyInv_setBank {s : State} {i : BankId} {b : Bank} (h : DirtyInv s) (hb : ListsInv b) :
    DirtyInv (setBank i b s) := by
  cases i
  exacts [⟨hb, h.2⟩, ⟨h.1, hb⟩]

theorem KeepsTables.setBank {s : State} {i : BankId} {b : Bank} (h : ListsInv (Machine.bank s i) → ListsInv b) :
    KeepsTables s (setBank i b s) := by
  constructor
  case lists => exact fun hs => dirtyInv_setBank hs (h (dirtyInv_bank hs i))
  all_goals simp

/-- States and counts of the entries may change. -/
theorem KeepsTables.setBank_of_granules {s : State} {i : BankId} {b : Bank}
    (hg : b.dirty.map DirtyEntry.granule = (bank s i).dirty.map DirtyEntry.granule) (hl : b.listed = (bank s i).listed)
    (hs : b.spill = (bank s i).spill) : KeepsTables s (Machine.setBank i b s) :=
  .setBank fun h => h.congr hg hl hs

@[simp] theorem setEntry_granules (b : Bank) (n : Nat) (st : EntryState) :
    (b.setEntry n st).dirty.map DirtyEntry.granule = b.dirty.map DirtyEntry.granule := by
  apply List.ext_getElem <;> simp [Bank.setEntry, List.getElem_modify, apply_ite]

@[simp] theorem changeHeld_granules (b : Bank) (f : Nat → Nat) (g : Nat) :
    (b.changeHeld f g).dirty.map DirtyEntry.granule = b.dirty.map DirtyEntry.granule := by
  simp [Bank.changeHeld, Function.comp_def, apply_ite]

@[simp] theorem skipPending_granules (b : Bank) :
    b.skipPending.dirty.map DirtyEntry.granule = b.dirty.map DirtyEntry.granule := by
  simp [Bank.skipPending, Function.comp_def, apply_ite]

/-! ## Tracker, queues and tags -/

theorem TrackerBounds.of_sublist {l m : List TrackerEntry}
    (h : (m.map TrackerEntry.number).Sublist (l.map TrackerEntry.number)) (hl : TrackerBounds l) : TrackerBounds m := by
  refine ⟨hl.numbers.sublist h, fun e he => ?_⟩
  obtain ⟨e', he', hn⟩ := List.mem_map.1 (h.subset (List.mem_map_of_mem he))
  exact hn ▸ hl.range e' he'

theorem changeEntry_numbers {n : Nat} {f : TrackerEntry → TrackerEntry} (hf : ∀ e, (f e).number = e.number)
    (s : State) : (changeEntry n f s).up.tracker.map TrackerEntry.number = s.up.tracker.map TrackerEntry.number := by
  simp [Function.comp_def, apply_ite, hf]

theorem changeEntry_keepsTables {n : Nat} {f : TrackerEntry → TrackerEntry} (hf : ∀ e, (f e).number = e.number) (s : State) :
    KeepsTables s (changeEntry n f s) := by
  constructor
  case tracker => exact .of_sublist (changeEntry_numbers hf s ▸ .refl _)
  all_goals simp [DirtyInv]

theorem PortBounds.congr {d p : DownstreamPort} (h : PortBounds d) (ht : p.tags = d.tags) (hs : p.copyShare = d.copyShare)
    (hc : p.shareCounter = d.shareCounter) (hl : p.responseLimit = d.responseLimit)
    (hb : p.background = [] → d.background = []) :
    PortBounds p :=
  ⟨ht ▸ h.numbers, ht ▸ h.range, by rw [outstandingTags, ht]; exact h.outstanding, hs ▸ h.share, hc ▸ h.counter,
    fun hp => hc ▸ h.idle (hb hp), hl ▸ h.limit⟩

theorem pushPass_keepsTables (r : Request) (s : State) : KeepsTables s (pushPass r s) := by
  constructor
  case port => exact fun h => h.congr rfl rfl rfl rfl id
  all_goals simp [DirtyInv]

theorem pushBackground_keepsTables (rs : List Request) (s : State) : KeepsTables s (pushBackground rs s) := by
  constructor
  case port => exact fun h => h.congr rfl rfl rfl rfl fun hb => (List.append_eq_nil_iff.1 hb).1
  all_goals simp [DirtyInv]

/-- Whatever requests leave, an empty background queue clears the counter (R147). -/
theorem clearShareIfIdle_portBounds {s : State} {d : DownstreamPort} (h : PortBounds d) (ht : s.dp.tags = d.tags)
    (hs : s.dp.copyShare = d.copyShare) (hc : s.dp.shareCounter = d.shareCounter) (hl : s.dp.responseLimit = d.responseLimit) :
    PortBounds (clearShareIfIdle s).dp := by
  rcases clearShareIfIdle_cases s with ⟨hb, he⟩ | ⟨hb, he⟩ <;> rw [he]
  · exact ⟨ht ▸ h.numbers, ht ▸ h.range, by rw [outstandingTags, ht]; exact h.outstanding, hs ▸ h.share, by simp,
      fun _ => rfl, hl ▸ h.limit⟩
  · exact h.congr ht hs hc hl fun hn => absurd hn hb

theorem promoteReads_keepsTables (q : Seq) (s : State) : KeepsTables s (promoteReads q s) := by
  constructor
  case port => exact fun h => clearShareIfIdle_portBounds h rfl rfl rfl rfl
  all_goals simp [DirtyInv]

theorem withdrawReads_keepsTables (cs : List CopyOp) (s : State) : KeepsTables s (withdrawReads cs s) := by
  constructor
  case port => exact fun h => clearShareIfIdle_portBounds h rfl rfl rfl rfl
  all_goals simp [DirtyInv]

theorem issueEntry_keepsTables (n : Nat) (s : State) : KeepsTables s (issueEntry n s) := by
  rcases issueEntry_cases n s with ⟨-, h⟩ | ⟨e, -, h⟩ <;> rw [h]
  · exact .refl s
  · refine .trans ?_ (pushPass_keepsTables _ _)
    exact changeEntry_keepsTables (n := n) (f := fun e => { e with phase := .issued, held := false }) (fun _ => rfl) s

theorem dropEntry_keepsTables (n : Nat) (s : State) : KeepsTables s (dropEntry n s) := by
  constructor
  case tracker =>
    refine .of_sublist ?_
    rw [dropEntry, endResetDrain_tracker]
    exact List.filter_sublist.map _
  all_goals simp [DirtyInv]

theorem returnStream_keepsTables (str : Stream) (s : State) : KeepsTables s (returnStream str s) := by
  have hup : (returnStream str s).up.tracker = (splitAnswered str false s.up.tracker).1 := by
    simp only [returnStream, endResetDrain_tracker]
    exact congrArg UpstreamPort.tracker (foldl_frame (·.up) (by simp) _ _)
  constructor
  case tracker => exact .of_sublist (hup ▸ (splitAnswered_sublist str false _).1.map _)
  all_goals simp [DirtyInv]

theorem reportFault_keepsTables (k : FaultKind) (f : FaultFields) (s : State) : KeepsTables s (reportFault k f s) := by
  constructor
  case faults =>
    rintro ⟨hr, hl, hf⟩
    rcases reportFault_cases k f s with ⟨hlen, he⟩ | ⟨hlen, he⟩ <;> rw [he]
    · exact ⟨by simpa using hlen, hl, fun h0 => absurd (hf h0) (by omega)⟩
    · exact ⟨hr, by simp, fun _ => by dsimp only; omega⟩
  all_goals simp [DirtyInv]

theorem dropTag_keepsTables (n : Nat) (s : State) : KeepsTables s (dropTag n s) := by
  constructor
  case port =>
    intro h
    have hsub : (s.dp.tags.filter fun t => decide (t.number ≠ n)).Sublist s.dp.tags := List.filter_sublist
    exact ⟨h.numbers.sublist (hsub.map _), fun t ht => h.range t (hsub.subset ht),
      ((hsub.filter _).length_le).trans h.outstanding, h.share, h.counter, h.idle, h.limit⟩
  all_goals simp [DirtyInv]

/-- The tag is OUTSTANDING (Table 8.4.1). -/
def isOutstanding (t : Tag) : Bool :=
  match t.state with
  | .outstanding _ _ => true
  | .expired => false

theorem outstandingTags_eq (dp : DownstreamPort) : outstandingTags dp = dp.tags.countP isOutstanding :=
  List.countP_eq_length_filter.symm

/-- A change of the tags in place that makes none OUTSTANDING. -/
theorem PortBounds.mapTags {d : DownstreamPort} {f : Tag → Tag} (h : PortBounds d) (hn : ∀ t, (f t).number = t.number)
    (ho : ∀ t, isOutstanding (f t) = true → isOutstanding t = true) : PortBounds { d with tags := d.tags.map f } := by
  refine ⟨?_, ?_, ?_, h.share, h.counter, h.idle, h.limit⟩
  · simpa [Function.comp_def, hn] using h.numbers
  · simpa [hn] using h.range
  · have hle : (d.tags.map f).countP isOutstanding ≤ d.tags.countP isOutstanding := by
      rw [List.countP_map]
      exact List.countP_mono_left fun t _ => ho t
    exact (outstandingTags_eq _).trans_le (hle.trans ((outstandingTags_eq d).symm.trans_le h.outstanding))

theorem expireTag_keepsTables (n : Nat) (s : State) : KeepsTables s (expireTag n s) := by
  constructor
  case port =>
    refine fun h => h.mapTags (fun t => by split <;> rfl) fun t => ?_
    split
    · exact fun hx => by cases hx
    · exact id
  all_goals simp [DirtyInv]

theorem choose_portBounds {d : DownstreamPort} {c : Choice} (h : PortBounds d) (hc : choose d = some c) :
    PortBounds c.port := by
  have hb {c : Choice} (hc : chooseBackground d = some c) : PortBounds c.port := by
    unfold chooseBackground at hc
    split at hc <;> cases hc
    exact ⟨h.numbers, h.range, h.outstanding, h.share, by simp, fun _ => rfl, h.limit⟩
  have hp {c : Choice} (hc : choosePass d = some c) (hs : d.background = [] ∨ d.shareCounter < d.copyShare) :
      PortBounds c.port := by
    unfold choosePass at hc
    split at hc <;> cases hc
    by_cases hbg : d.background = []
    · exact h.congr rfl rfl (by simp [hbg]) rfl id
    · have := hs.resolve_left hbg
      have := h.share.2
      exact ⟨h.numbers, h.range, h.outstanding, h.share, by simp [hbg]; omega, fun hn => absurd hn hbg, h.limit⟩
  unfold choose at hc
  split at hc
  · cases hc
    exact h.congr rfl rfl rfl rfl id
  · split at hc
    · rename_i hsel
      refine hp hc ?_
      have hshare := (Bool.and_eq_true_iff.1 hsel).2
      by_cases hbg : d.background = []
      · exact .inl hbg
      · exact .inr (by simpa [hbg] using hshare)
    · exact hb hc

/-- What a choice leaves alone. -/
theorem choose_port {d : DownstreamPort} {c : Choice} (hc : choose d = some c) :
    c.port.tags = d.tags ∧ c.port.responseLimit = d.responseLimit := by
  unfold choose chooseBackground choosePass at hc
  repeat' split at hc
  all_goals cases hc
  all_goals exact ⟨rfl, rfl⟩

/-- A FREE tag is taken while fewer than 64 are OUTSTANDING (R146, R150). -/
theorem PortBounds.take {d p : DownstreamPort} {n limit : Nat} {r : Request} (hp : PortBounds p) (h : PortBounds d)
    (ht : p.tags = d.tags) (ho : outstandingTags d < 64) (hn : freeTag d = some n) :
    PortBounds { p with tags := p.tags ++ [newTag n limit r] } := by
  obtain ⟨hrange, hfree⟩ := freeTag_some hn
  refine ⟨?_, ?_, ?_, hp.share, hp.counter, hp.idle, hp.limit⟩
  · dsimp only
    rw [List.map_append, ht, List.nodup_append]
    refine ⟨h.numbers, by simp, fun a ha b hb => ?_⟩
    obtain ⟨t, htag, rfl⟩ := List.mem_map.1 ha
    simp only [List.map_cons, List.map_nil, List.mem_singleton] at hb
    exact hb ▸ hfree t htag
  · intro t htag
    rcases List.mem_append.1 htag with htag | htag
    · exact hp.range t htag
    · rw [List.mem_singleton.1 htag]
      exact hrange
  · rw [outstandingTags_eq] at ho ⊢
    dsimp only
    rw [ht, List.countP_append]
    have := List.countP_le_length (p := isOutstanding) (l := [newTag n limit r])
    rw [List.length_singleton] at this
    omega

theorem grantNext_keepsTables (s : State) : KeepsTables s (grantNext s) := by
  rcases grantNext_cases s with h | ⟨n, c, ho, hn, hc, h⟩ <;> rw [h]
  · exact .refl s
  · constructor
    case port => exact fun hs => (choose_portBounds hs hc).take hs (choose_port hc).1 ho hn
    all_goals exact id

end Sys2Proof.Safety


/-! # What a start of a copy does, part by part (R83, R86) -/

namespace Sys2Proof.Machine

/-- The entry becomes COPYING and the urgent count may rise; nothing else of the banks changes. -/
theorem startCopy_ju (i : BankId) (n : Nat) (byHold : Bool) (s : State) :
    ∃ u, (startCopy i n byHold s).ju = (setBank i { (bank s i).setEntry n .copying with urgent := u } s).ju := by
  cases hd : (bank s i).dirty[n]? with
  | none =>
    refine ⟨(bank s i).urgent, ?_⟩
    have hset : { (bank s i).setEntry n .copying with urgent := (bank s i).urgent } = bank s i := by
      rw [Bank.setEntry, List.modify_eq_self (List.getElem?_eq_none_iff.1 hd)]
    rw [hset, setBank_bank]
    simp [startCopy, hd]
  | some d =>
    refine ⟨(bank s i).urgent + (byHold || decide (0 < d.held)).toNat, ?_⟩
    simp only [startCopy, hd]
    cases i <;> split <;> simp [setBank, bank, Bank.setEntry]

/-- One copy more at most; the Hold Queue and its limit stay. -/
theorem startCopy_ce (i : BankId) (n : Nat) (byHold : Bool) (s : State) :
    (startCopy i n byHold s).ce.holdQueue = s.ce.holdQueue ∧ (startCopy i n byHold s).ce.holdLimit = s.ce.holdLimit ∧
      (startCopy i n byHold s).ce.copies.length ≤ s.ce.copies.length + 1 := by
  simp only [startCopy]
  (repeat' split) <;> simp

/-- Reads join the urgent or the background queue; nothing else of the port changes. -/
theorem startCopy_dp (i : BankId) (n : Nat) (byHold : Bool) (s : State) :
    ∃ us bs, (startCopy i n byHold s).dp =
      { s.dp with urgent := s.dp.urgent ++ us, background := s.dp.background ++ bs } := by
  simp only [startCopy]
  repeat' split
  · exact ⟨[], [], by simp⟩
  · exact ⟨_, [], by simp; rfl⟩
  · exact ⟨[], _, by simp; rfl⟩

end Sys2Proof.Machine

/-! # The tables: copies, records and the moves of a bank -/

namespace Sys2Proof.Safety

open Sys2Proof.Machine

/-- An operation outside every table. -/
theorem KeepsTables.of_frame {s t : State} (hj : t.ju = s.ju) (hu : t.up = s.up) (hc : t.ce = s.ce) (he : t.ec = s.ec)
    (hf : t.fq = s.fq) (hd : t.dp = s.dp) : KeepsTables s t := by
  constructor
  case lists => rw [DirtyInv, DirtyInv, hj]; exact id
  · rw [hu]; exact id
  · rw [hc]; exact id
  · rw [he]; exact id
  · rw [hf]; exact id
  · rw [hd]; exact id

/-! ## Records -/

theorem handOverData_keepsTables (c : CopyOp) (s : State) : KeepsTables s (handOverData c s) := by
  unfold handOverData
  split
  · exact .refl s
  · refine .trans ?_ (pushBackground_keepsTables _ _)
    exact .of_frame rfl rfl rfl rfl rfl rfl

theorem handOverVoid_keepsTables (c : CopyOp) (s : State) : KeepsTables s (handOverVoid c s) := by
  unfold handOverVoid
  split
  · exact .refl s
  · refine .trans ?_ (pushBackground_keepsTables _ _)
    exact .of_frame rfl rfl rfl rfl rfl rfl

theorem writeEndIfReady_keepsTables (s : State) : KeepsTables s (writeEndIfReady s) := by
  rcases writeEndIfReady_cases s with h | ⟨q, i, x, -, -, -, -, -, -, h⟩ <;> rw [h]
  · exact .refl s
  · refine .trans ?_ (pushBackground_keepsTables _ _)
    exact .of_frame rfl rfl rfl rfl rfl rfl

theorem reserveEnd_keepsTables (s : State) : KeepsTables s (reserveEnd s) := by
  unfold reserveEnd
  refine .trans ?_ (writeEndIfReady_keepsTables _)
  exact .of_frame rfl rfl rfl rfl rfl rfl

theorem requestEnd_keepsTables (e : Option Nat) (s : State) : KeepsTables s (requestEnd e s) := by
  simp only [requestEnd]
  repeat' split
  · refine .trans ?_ (reserveEnd_keepsTables _)
    exact .of_frame rfl rfl rfl rfl rfl rfl
  · exact .of_frame rfl rfl rfl rfl rfl rfl
  · exact reserveEnd_keepsTables s
  · exact .of_frame rfl rfl rfl rfl rfl rfl

/-! ## Copies and the moves of a cut bank -/

theorem startCopy_keepsTables {i : BankId} {n : Nat} {byHold : Bool} {s : State} (h : s.ce.copies.length < 4) :
    KeepsTables s (startCopy i n byHold s) := by
  obtain ⟨u, hju⟩ := startCopy_ju i n byHold s
  obtain ⟨hq, hl, hc⟩ := startCopy_ce i n byHold s
  obtain ⟨us, bs, hdp⟩ := startCopy_dp i n byHold s
  constructor
  case lists =>
    have hset : KeepsTables s (setBank i { (bank s i).setEntry n .copying with urgent := u } s) :=
      .setBank_of_granules (setEntry_granules (bank s i) n .copying) rfl rfl
    intro hs
    rw [DirtyInv, hju]
    exact hset.lists hs
  case engine => exact fun he => ⟨hq ▸ he.holds, by omega, hl ▸ he.limit⟩
  case port =>
    rw [hdp]
    exact fun hp => hp.congr rfl rfl rfl rfl fun hb => (List.append_eq_nil_iff.1 hb).1
  all_goals simp

theorem startCopies_keepsTables (s : State) : KeepsTables s (startCopies s) :=
  startCopies_induction (P := KeepsTables s) (.refl s) fun _ _ _ _ h _ hc _ _ => h.trans (startCopy_keepsTables hc)

theorem becomeClosing_keepsTables (i : BankId) (s : State) : KeepsTables s (becomeClosing i s) := by
  refine .trans ?_ (requestEnd_keepsTables _ _)
  exact .setBank_of_granules rfl rfl rfl

theorem closeIfResolved_keepsTables (i : BankId) (s : State) : KeepsTables s (closeIfResolved i s) := by
  rcases closeIfResolved_cases i s with h | ⟨-, -, h⟩ <;> rw [h]
  exacts [.refl s, becomeClosing_keepsTables i s]

theorem drainIfSettled_keepsTables (i : BankId) (s : State) : KeepsTables s (drainIfSettled i s) := by
  rcases drainIfSettled_cases i s with h | ⟨-, -, h⟩ <;> rw [h]
  · exact .refl s
  · refine .trans ?_ (closeIfResolved_keepsTables i _)
    refine .trans ?_ (startCopies_keepsTables _)
    exact .setBank_of_granules rfl rfl rfl

theorem countSettled_keepsTables (e : Nat) (s : State) : KeepsTables s (countSettled e s) := by
  rcases countSettled_cases e s with ⟨-, h⟩ | ⟨i, -, h⟩ <;> rw [h]
  exacts [.refl s, .setBank_of_granules rfl rfl rfl]

theorem leaveCount_keepsTables (e : TrackerEntry) (s : State) : KeepsTables s (leaveCount e s) := by
  rcases leaveCount_cases e s with h | ⟨t, -, h⟩ | h <;> rw [h]
  · exact .refl s
  · exact countSettled_keepsTables t s
  · exact ⟨id, id, id, id, id, id⟩

theorem drainAfter_keepsTables (e : TrackerEntry) (s : State) : KeepsTables s (drainAfter e s) := by
  rcases drainAfter_cases e s with h | ⟨t, -, h⟩
  · exact .of_eq h
  · rcases drainEpoch_cases t s with ⟨-, hd⟩ | ⟨i, -, hd⟩
    · exact .of_eq (h.trans hd)
    · rw [h, hd]; exact drainIfSettled_keepsTables i s

theorem completeWrite_keepsTables (e : TrackerEntry) (s : State) : KeepsTables s (completeWrite e s) :=
  (leaveCount_keepsTables e s).trans (drainAfter_keepsTables e _)

/-! ## Releases and the end of a copy -/

theorem uncountHold_keepsTables (h : HoldEntry) (s : State) : KeepsTables s (uncountHold h s) := by
  unfold uncountHold
  split
  · exact .refl s
  · split
    · exact .refl s
    · exact .setBank_of_granules (changeHeld_granules _ _ _) rfl rfl

theorem releaseHold_keepsTables (s : State) (h : HoldEntry) : KeepsTables s (releaseHold s h) :=
  (uncountHold_keepsTables h s).trans (issueEntry_keepsTables _ _)

/-- Copies and holds that leave. -/
theorem KeepsTables.engine_le {s : State} {ce : CopyEngine} (hh : ce.holdQueue.length ≤ s.ce.holdQueue.length)
    (hc : ce.copies.length ≤ s.ce.copies.length) (hl : ce.holdLimit = s.ce.holdLimit) :
    KeepsTables s { s with ce := ce } :=
  ⟨id, id, fun h => ⟨hh.trans h.holds, hc.trans h.copies, hl ▸ h.limit⟩, id, id, id⟩

theorem scanHolds_length (ready : HoldEntry → Bool) (kept hs : List HoldEntry) :
    (scanHolds ready kept hs).1.length ≤ kept.length + hs.length := by
  induction hs generalizing kept with
  | nil => simp [scanHolds]
  | cons h hs ih =>
    simp only [scanHolds]
    split
    · exact (ih kept).trans (by simp)
    · exact (ih _).trans (by simp; omega)

theorem releaseScan_keepsTables (s : State) : KeepsTables s (releaseScan s) := by
  refine releaseScan_induction (P := KeepsTables s) (.engine_le ?_ le_rfl rfl) fun t x h =>
    h.trans (releaseHold_keepsTables t x)
  simpa using scanHolds_length (granuleResolved s) [] s.ce.holdQueue

theorem releaseAll_keepsTables (s : State) : KeepsTables s (releaseAll s) := by
  refine .trans ?_ (.foldl releaseHold_keepsTables _ _)
  exact .engine_le (Nat.zero_le _) le_rfl rfl

theorem stopTimers_keepsTables (g e : Nat) (s : State) : KeepsTables s (stopTimers g e s) :=
  .engine_le (by simp) le_rfl rfl

theorem removeCopy_keepsTables (q : Seq) (s : State) : KeepsTables s (removeCopy q s) :=
  .engine_le le_rfl (List.length_filter_le _ _) rfl

theorem report_keepsTables (r : Report) (n : Nat) (s : State) : KeepsTables s (report r n s) :=
  .of_frame (by simp) (by simp) (by simp) (by simp) (by simp) (by simp)

theorem raiseCause_keepsTables (c : Cause) (s : State) : KeepsTables s (raiseCause c s) := .of_frame rfl rfl rfl rfl rfl rfl

theorem endEntry_keepsTables (i : BankId) (c : CopyOp) (g : Bool) (s : State) : KeepsTables s (endEntry i c g s) := by
  unfold endEntry
  dsimp only
  split
  · refine .trans ?_ (report_keepsTables _ _ _)
    exact .setBank_of_granules (setEntry_granules _ _ _) rfl rfl
  · exact .setBank_of_granules (setEntry_granules _ _ _) rfl rfl

theorem completeCopy_keepsTables (c : CopyOp) (s : State) : KeepsTables s (completeCopy c s) := by
  unfold completeCopy
  split
  · exact removeCopy_keepsTables _ s
  · dsimp only
    refine .trans ?_ (closeIfResolved_keepsTables _ _)
    refine .trans ?_ (startCopies_keepsTables _)
    refine .trans ?_ (removeCopy_keepsTables _ _)
    have hscan (i : BankId) (g : Bool) :
        KeepsTables s (releaseScan (stopTimers c.granule c.epoch (endEntry i c g s))) :=
      ((endEntry_keepsTables i c g s).trans (stopTimers_keepsTables _ _ _)).trans (releaseScan_keepsTables _)
    split
    · exact (hscan _ _).trans (handOverData_keepsTables _ _)
    · exact (hscan _ _).trans (handOverVoid_keepsTables _ _)

theorem finishCopy_keepsTables (s : State) (q : Seq) : KeepsTables s (finishCopy s q) := by
  unfold finishCopy
  split
  · exact .refl s
  · split
    exacts [completeCopy_keepsTables _ s, .refl s]

theorem finishCopies_keepsTables (s : State) : KeepsTables s (finishCopies s) := .foldl finishCopy_keepsTables _ s

/-! ## Damage -/

theorem setReason_keepsTables (i : BankId) (r : DamageReason) (s : State) : KeepsTables s (setReason i r s) := by
  have hset : KeepsTables s (setBank i { bank s i with damage := some r } s) := .setBank_of_granules rfl rfl rfl
  rcases setReason_cases i r s with ⟨-, he⟩ | ⟨-, he | he⟩ <;> rw [he]
  exacts [.refl s, hset, hset.trans (raiseCause_keepsTables _ _)]

theorem abandonCopies_keepsTables (s : State) : KeepsTables s (abandonCopies s) := by
  refine .trans ?_ (withdrawReads_keepsTables _ _)
  exact .engine_le le_rfl (by simp) rfl

theorem giveUpCopying_keepsTables (i : BankId) (s : State) : KeepsTables s (giveUpCopying i s) := by
  unfold giveUpCopying
  refine .trans ?_ (finishCopies_keepsTables _)
  refine .trans ?_ (requestEnd_keepsTables _ _)
  refine .trans ?_ (abandonCopies_keepsTables _)
  refine .trans ?_ (releaseAll_keepsTables _)
  exact .setBank_of_granules (skipPending_granules _) rfl rfl

theorem damageBank_keepsTables (i : BankId) (r : DamageReason) (s : State) : KeepsTables s (damageBank i r s) := by
  rcases damageBank_cases i r s with ⟨-, h⟩ | ⟨-, h⟩ | ⟨-, h⟩ <;> rw [h]
  · exact .refl s
  · exact setReason_keepsTables i r s
  · exact (setReason_keepsTables i r s).trans (giveUpCopying_keepsTables i _)

theorem failWork_keepsTables (r : DamageReason) (m g : Option Nat) (s : State) : KeepsTables s (failWork r m g s) := by
  unfold failWork
  dsimp only
  split
  · exact reportFault_keepsTables _ _ s
  · exact (damageBank_keepsTables _ r s).trans (reportFault_keepsTables _ _ _)

theorem resolveRead_keepsTables (q : Seq) (k : Nat) (d : Option (List Byte)) (s : State) :
    KeepsTables s (resolveRead q k d s) := .engine_le le_rfl (by simp) rfl

theorem copyReadOkay_keepsTables (q : Seq) (k : Nat) (d : List Byte) (s : State) : KeepsTables s (copyReadOkay q k d s) :=
  (resolveRead_keepsTables q k _ s).trans (finishCopy_keepsTables _ q)

theorem copyReadFailed_keepsTables (q : Seq) (k : Nat) (r : DamageReason) (a : Nat) (s : State) :
    KeepsTables s (copyReadFailed q k r a s) :=
  ((resolveRead_keepsTables q k none s).trans (failWork_keepsTables r _ _ _)).trans (finishCopies_keepsTables _)

theorem abandonCut_keepsTables (s : State) : KeepsTables s (abandonCut s) := by
  unfold abandonCut
  split
  exacts [.refl s, damageBank_keepsTables _ _ s]

theorem expireHold_keepsTables (n : Nat) (s : State) : KeepsTables s (expireHold n s) := by
  unfold expireHold
  split
  · exact .refl s
  · split
    · exact .refl s
    · exact (damageBank_keepsTables _ _ s).trans (reportFault_keepsTables _ _ _)

/-! ## Cuts and the end of an epoch -/

theorem openWith_keepsTables (i : BankId) (e : Nat) (s : State) : KeepsTables s (openWith i e s) :=
  .setBank fun _ => listsInv_free.congr rfl rfl rfl

theorem acceptCut_keepsTables (i : BankId) (c : CutSource) (s : State) : KeepsTables s (acceptCut i c s) := by
  unfold acceptCut
  dsimp only
  refine .trans ?_ (drainIfSettled_keepsTables i _)
  have hcut : KeepsTables s (setBank i { bank s i with state := .settling, power := (bank s i).power || decide (c = .power) }
      (snapshotCounters (bank s i).epoch s)) := by
    refine .trans (t := snapshotCounters (bank s i).epoch s) (.of_frame rfl rfl rfl rfl rfl rfl) ?_
    exact .setBank fun h => h.congr (by cases i <;> rfl) (by cases i <;> rfl) (by cases i <;> rfl)
  cases c with
  | command => exact hcut.trans (openWith_keepsTables _ _ _)
  | power =>
    refine .trans (hcut.trans (openWith_keepsTables i.other ((bank s i).epoch.getD 0 + 1) _)) ?_
    exact .trans (raiseCause_keepsTables .powerCut _) ⟨id, id, id, id, id, id⟩
  | stop => exact hcut.trans ⟨id, id, id, id, id, id⟩

theorem setPowerCutPending_keepsTables (v : Bool) (s : State) : KeepsTables s (setPowerCutPending v s) :=
  ⟨id, id, id, id, id, id⟩

theorem heldPowerCut_keepsTables (s : State) : KeepsTables s (heldPowerCut s) := by
  rcases heldPowerCut_cases s with ⟨-, h⟩ | ⟨-, h | ⟨i, -, -, h⟩⟩ <;> rw [h]
  exacts [.refl s, setPowerCutPending_keepsTables _ s, acceptCut_keepsTables i _ s]

theorem endEpoch_keepsTables (i : BankId) (r : LogRecord) (s : State) : KeepsTables s (endEpoch i r s) := by
  refine .trans ?_ (raiseCause_keepsTables _ _)
  refine .trans ?_ (.setBank fun _ => listsInv_free)
  constructor
  case log => exact fun _ => List.length_take_le _ _
  all_goals exact id

theorem closeEpoch_keepsTables (s : State) : KeepsTables s (closeEpoch s) := by
  rcases closeEpoch_cases s with h | ⟨i, -, -, h⟩ <;> rw [h]
  · exact .refl s
  · refine .trans ?_ (heldPowerCut_keepsTables _)
    exact (endEpoch_keepsTables i _ s).trans (.of_frame rfl rfl rfl rfl rfl rfl)

theorem finishSlot_keepsTables (q : Seq) (s : State) : KeepsTables s (finishSlot q s) := by
  have hend (u : State) (hu : KeepsTables s u) : KeepsTables s (writeEndIfReady u) := hu.trans (writeEndIfReady_keepsTables u)
  simp only [finishSlot]
  split
  · refine .trans (hend _ ?_) (closeEpoch_keepsTables _)
    exact .of_frame rfl rfl rfl rfl rfl rfl
  · exact hend _ (.of_frame rfl rfl rfl rfl rfl rfl)

theorem changeSlot_keepsTables (q : Seq) (f : Slot → Slot) (s : State) : KeepsTables s (changeSlot q f s) :=
  .of_frame rfl rfl rfl rfl rfl rfl

theorem resolveArea_keepsTables (q : Seq) (f : Bool) (s : State) : KeepsTables s (resolveArea q f s) := by
  simp only [resolveArea]
  split
  · exact .refl s
  · split
    · exact .refl s
    · split
      · split
        · exact (changeSlot_keepsTables q _ s).trans (pushBackground_keepsTables _ _)
        · exact (changeSlot_keepsTables q _ s).trans (finishSlot_keepsTables q _)
      · exact changeSlot_keepsTables q _ s

/-! ## Completions -/

theorem completePass_keepsTables (n : Nat) (o : UpOutcome) (bs : List Byte) (x : Option Bool) (s : State) :
    KeepsTables s (completePass n o bs x s) := by
  unfold completePass
  split
  · exact .refl s
  · rename_i e _
    dsimp only
    split
    · exact (completeWrite_keepsTables e s).trans (dropEntry_keepsTables n _)
    · refine .trans ?_ (returnStream_keepsTables _ _)
      refine .trans (completeWrite_keepsTables e s) ?_
      exact changeEntry_keepsTables (by intro; rfl) _

theorem requestOkay_keepsTables (t : Tag) (r : Response) (s : State) : KeepsTables s (requestOkay t r s) := by
  unfold requestOkay
  cases t.source with
  | passRead n => exact completePass_keepsTables ..
  | passWrite n => exact completePass_keepsTables ..
  | copyRead q k => exact copyReadOkay_keepsTables ..
  | dataWrite q k => exact resolveArea_keepsTables ..
  | endSpill q k => exact resolveArea_keepsTables ..
  | dataHeader q => exact finishSlot_keepsTables ..
  | voidHeader q => exact finishSlot_keepsTables ..
  | endHeader q => exact finishSlot_keepsTables ..

theorem requestFailed_keepsTables (t : Tag) (k : FaultKind) (r : DamageReason) (s : State) :
    KeepsTables s (requestFailed t k r s) := by
  have hpass (n : Nat) : KeepsTables s (completePass n .refused [] none (passFault t n k s)) :=
    (reportFault_keepsTables _ _ s).trans (completePass_keepsTables ..)
  have hrecord (q : Seq) : KeepsTables s (recordFailed q t.address s) := failWork_keepsTables ..
  unfold requestFailed
  cases t.source with
  | passRead n => exact hpass n
  | passWrite n => exact hpass n
  | copyRead q k => exact copyReadFailed_keepsTables ..
  | dataWrite q k => exact (hrecord q).trans (resolveArea_keepsTables ..)
  | endSpill q k => exact (hrecord q).trans (resolveArea_keepsTables ..)
  | dataHeader q => exact (hrecord q).trans (finishSlot_keepsTables ..)
  | voidHeader q => exact (hrecord q).trans (finishSlot_keepsTables ..)
  | endHeader q => exact (hrecord q).trans (finishSlot_keepsTables ..)

theorem takeResponse_keepsTables (d : DsResult) (r : Response) (s : State) : KeepsTables s (takeResponse d r s) := by
  rcases takeResponse_cases d r s with ⟨-, h⟩ | ⟨t, -, -, h⟩ | ⟨t, _, _, -, -, ⟨-, h⟩ | ⟨-, h⟩⟩ <;> rw [h]
  · exact reportFault_keepsTables _ _ s
  · exact (dropTag_keepsTables _ s).trans (reportFault_keepsTables _ _ _)
  · exact (dropTag_keepsTables _ s).trans (requestOkay_keepsTables ..)
  · exact (dropTag_keepsTables _ s).trans (requestFailed_keepsTables ..)

theorem expireResponse_keepsTables (n : Nat) (s : State) : KeepsTables s (expireResponse n s) := by
  rcases expireResponse_cases n s with h | ⟨t, _, _, -, -, -, h⟩ <;> rw [h]
  · exact .refl s
  · exact ((expireTag_keepsTables n s).trans (report_keepsTables _ _ _)).trans (requestFailed_keepsTables ..)

/-! ## Acceptance -/

theorem tagWrite_keepsTables (n : Nat) (s : State) : KeepsTables s (tagWrite n s) := by
  unfold tagWrite
  split
  · refine .trans ?_ (changeEntry_keepsTables (by intro; rfl) _)
    exact .setBank_of_granules rfl rfl rfl
  · exact .refl s

/-- A granule that is not listed joins a list with room (R37, R38). -/
theorem ListsInv.append {b : Bank} (h : ListsInv b) {g : Nat} (hg : b.entryOf g = none) (hl : b.dirty.length < 4096) :
    ListsInv { b with dirty := b.dirty ++ [{ granule := g, state := .pending, held := 0 }], listed := b.listed + 1 } where
  listedOnce := by
    rw [List.map_append, List.nodup_append]
    refine ⟨h.listedOnce, by simp, fun a ha x hx => ?_⟩
    obtain ⟨d, hd, rfl⟩ := List.mem_map.1 ha
    simp only [List.map_cons, List.map_nil, List.mem_singleton] at hx
    exact hx ▸ entryOf_none.1 hg d hd
  listLimit := by simpa using hl
  listedCount := by simp [h.listedCount]
  spillAtFull hs := absurd (h.spillAtFull hs) (by omega)
  spilledOnce := h.spilledOnce
  spillLimit := h.spillLimit
  spillRange := h.spillRange

theorem spillThrough_windows (w g : Nat) (spill : List SpillEntry) :
    (spillThrough w g spill).map SpillEntry.window =
      if w ∈ spill.map SpillEntry.window then spill.map SpillEntry.window else spill.map SpillEntry.window ++ [w] := by
  have hany : (spill.any fun e => decide (e.window = w)) = true ↔ w ∈ spill.map SpillEntry.window := by simp
  unfold spillThrough
  by_cases hw : w ∈ spill.map SpillEntry.window
  · rw [if_pos (hany.2 hw), if_pos hw]
    simp [Function.comp_def, SpillEntry.widen, apply_ite]
  · rw [if_neg (hany.not.2 hw), if_neg hw]
    simp

/-- A spill at a full list makes or widens the one range of its window (R39). -/
theorem ListsInv.spillThrough {b : Bank} (h : ListsInv b) {w g : Nat} (hw : w ≤ 63) (hl : b.dirty.length = 4096) :
    ListsInv { b with spill := spillThrough w g b.spill } := by
  have honce : ((Machine.spillThrough w g b.spill).map SpillEntry.window).Nodup := by
    rw [spillThrough_windows]
    split
    · exact h.spilledOnce
    · rename_i hn
      exact List.nodup_append.2 ⟨h.spilledOnce, by simp, fun a ha x hx => by
        rw [List.mem_singleton.1 hx]; exact fun hax => hn (hax ▸ ha)⟩
  have hrange : ∀ e ∈ Machine.spillThrough w g b.spill, e.window ≤ 63 ∧ e.low ≤ e.high := by
    intro e he
    unfold Machine.spillThrough at he
    split at he
    · obtain ⟨x, hx, rfl⟩ := List.mem_map.1 he
      have hx' := h.spillRange x hx
      split
      · exact ⟨hx'.1, (min_le_left _ _).trans (hx'.2.trans (le_max_left _ _))⟩
      · exact hx'
    · rcases List.mem_append.1 he with he | he
      · exact h.spillRange e he
      · rw [List.mem_singleton.1 he]
        exact ⟨hw, le_rfl⟩
  refine ⟨h.listedOnce, h.listLimit, h.listedCount, fun _ => hl, honce, ?_, hrange⟩
  simpa using length_le_of_nodup_lt (n := 64) honce fun x hx => by
    obtain ⟨e, he, rfl⟩ := List.mem_map.1 hx
    have := (hrange e he).1
    omega

theorem markGranule_keepsTables {i : BankId} {g w : Nat} {d : Option Nat} {s : State} (hw : w ≤ 63) :
    KeepsTables s (markGranule i g w d s) := by
  unfold markGranule
  dsimp only
  split
  · exact .refl s
  · rename_i hg
    rw [Option.not_isSome_iff_eq_none] at hg
    split
    · rename_i hl
      refine .trans ?_ (report_keepsTables _ _ _)
      exact .setBank fun h => h.append hg hl
    · rename_i hl
      have hspill : KeepsTables s (report { event := .spilled } 1
          (setBank i { bank s i with spill := spillThrough w g (bank s i).spill } s)) := by
        refine .trans ?_ (report_keepsTables _ _ _)
        exact .setBank fun h => h.spillThrough hw (Nat.le_antisymm h.listLimit (Nat.le_of_not_lt hl))
      split
      · exact hspill.trans (raiseCause_keepsTables _ _)
      · exact hspill

/-- A lookup names a window of the table (R10). -/
theorem lookup_window_le {wu : WindowUnit} {dir : Direction} {t : Txn} {w : Nat} (h : (lookup wu dir t).window = some w) :
    w ≤ 63 := by
  cases hm : malformed t with
  | true => simp [lookup_malformed hm] at h
  | false =>
    cases hmode : wu.mode with
    | transparent => simp [lookup_transparent hm hmode] at h
    | guarded =>
      cases hd : domainOf wu t.initiator with
      | none => simp [lookup_noDomain hm hmode hd] at h
      | some d =>
        cases hf : findWindow wu d t.host with
        | none => simp [lookup_noWindow hm hmode hd hf] at h
        | some n =>
          obtain ⟨hn, v, hv, -⟩ := findWindow_some hf
          rw [lookup_window hm hmode hd hf hv] at h
          cases h
          omega

theorem markWrite_keepsTables {r : LookupResult} {g : Nat} {s : State} (hr : ∀ w, r.window = some w → w ≤ 63) :
    KeepsTables s (markWrite r g s) := by
  unfold markWrite
  split
  · rename_i w _ _ hw
    split
    exacts [markGranule_keepsTables (hr w hw), .refl s]
  · exact .refl s

theorem joinQueue_keepsTables {h : HoldEntry} {r : LookupResult} {s : State} (hl : s.ce.holdQueue.length < 8) :
    KeepsTables s (joinQueue h r s) := by
  unfold joinQueue
  dsimp only
  refine .trans ?_ (report_keepsTables _ _ _)
  refine .trans (t := { s with ce := { s.ce with holdQueue := s.ce.holdQueue ++ [h] } }) ?_
    (changeEntry_keepsTables (by intro; rfl) _)
  exact ⟨id, id, fun he => ⟨by simpa using hl, he.copies, he.limit⟩, id, id, id⟩

theorem promoteCopy_keepsTables (g e : Nat) (s : State) : KeepsTables s (promoteCopy g e s) := by
  unfold promoteCopy
  split
  · exact .refl s
  · split
    · refine .trans ?_ (promoteReads_keepsTables _ _)
      exact .engine_le le_rfl (by simp) rfl
    · exact .refl s

theorem holdOwn_keepsTables {n : Nat} {str : WriteStream} {i : BankId} {d : DirtyEntry} {r : LookupResult} {s : State}
    (hl : s.ce.holdQueue.length < 8) : KeepsTables s (holdOwn n str i d r s) := by
  have hjoin (h : HoldEntry) : KeepsTables s (setBank i ((bank s i).changeHeld (· + 1) d.granule) (joinQueue h r s)) := by
    refine (joinQueue_keepsTables hl).trans (.setBank_of_granules ?_ ?_ ?_) <;>
      rw [bank_congr (s := joinQueue h r s) (t := s) (by simp)]
    · exact changeHeld_granules _ _ _
    · rfl
    · rfl
  unfold holdOwn
  dsimp only
  split
  · exact (hjoin _).trans (promoteCopy_keepsTables _ _ _)
  · exact hjoin _

theorem holdCheck_keepsTables {n g : Nat} {str : WriteStream} {r : LookupResult} {s : State}
    (hl : s.ce.holdQueue.length < 8) : KeepsTables s (holdCheck n g str r s) := by
  rcases holdCheck_cases n g str r s with ⟨i, d, -, h⟩ | ⟨-, -, h⟩ | ⟨-, -, h⟩ <;> rw [h]
  exacts [holdOwn_keepsTables hl, joinQueue_keepsTables hl, issueEntry_keepsTables n s]

theorem refuseEntry_keepsTables (n : Nat) (d : Direction) (t : Txn) (k : FaultKind) (r : LookupResult) (s : State) :
    KeepsTables s (refuseEntry n d t k r s) := by
  unfold refuseEntry
  dsimp only
  refine .trans ?_ (returnStream_keepsTables _ _)
  refine .trans ?_ (reportFault_keepsTables _ _ _)
  exact changeEntry_keepsTables (by intro; rfl) s

theorem passWrite_keepsTables {n : Nat} {t : Txn} {r : LookupResult} {s : State} (hl : s.ce.holdQueue.length < 8)
    (hr : ∀ w, r.window = some w → w ≤ 63) : KeepsTables s (passWrite n t r s) := by
  unfold passWrite
  split
  · exact .trans (t := { s with ec := { s.ec with transparentWrites := s.ec.transparentWrites + 1 } })
      ⟨id, id, id, id, id, id⟩ (issueEntry_keepsTables _ _)
  · exact ((tagWrite_keepsTables n s).trans (markWrite_keepsTables hr)).trans (holdCheck_keepsTables (by simpa using hl))

/-- A FREE tracker entry is taken (R133). -/
theorem TrackerBounds.append {s : State} {e : TrackerEntry} {n : Nat} (h : TrackerBounds s.up.tracker)
    (hn : freeEntry s = some n) (he : e.number = n) : TrackerBounds (s.up.tracker ++ [e]) := by
  obtain ⟨hrange, hfree⟩ := freeEntry_some hn
  constructor
  · rw [List.map_append, List.nodup_append]
    refine ⟨h.numbers, by simp, fun a ha x hx => ?_⟩
    obtain ⟨d, hd, rfl⟩ := List.mem_map.1 ha
    simp only [List.map_cons, List.map_nil, List.mem_singleton] at hx
    exact hx ▸ he ▸ hfree d hd
  · intro x hx
    rcases List.mem_append.1 hx with hx | hx
    · exact h.range x hx
    · rw [List.mem_singleton.1 hx, he]
      exact hrange

theorem acceptInto_keepsTables {n : Nat} {d : Direction} {t : Txn} {bs : List Byte} {st : List Bool} {s : State}
    (hn : freeEntry s = some n) (hl : d = .write → s.ce.holdQueue.length < 8) :
    KeepsTables s (acceptInto n d t bs st s) := by
  have htake (e : TrackerEntry) (he : e.number = n) (r : Report) :
      KeepsTables s (report r 1 { s with up := { s.up with tracker := s.up.tracker ++ [e] } }) :=
    .trans (t := { s with up := { s.up with tracker := s.up.tracker ++ [e] } })
      ⟨id, fun h => h.append hn he, id, id, id, id⟩ (report_keepsTables _ _ _)
  unfold acceptInto
  dsimp only
  split
  · exact (htake _ rfl _).trans (refuseEntry_keepsTables ..)
  · cases d with
    | read => exact (htake _ rfl _).trans (issueEntry_keepsTables _ _)
    | write =>
      exact (htake _ rfl _).trans (passWrite_keepsTables (by simpa using hl rfl) fun w hw => lookup_window_le hw)

theorem acceptRead_keepsTables (t : Txn) (s : State) : KeepsTables s (acceptRead t s) := by
  rcases acceptRead_cases t s with h | ⟨n, -, hn, h⟩ <;> rw [h]
  exacts [.refl s, acceptInto_keepsTables hn (by simp)]

theorem acceptStaged_keepsTables (s : State) : KeepsTables s (acceptStaged s) := by
  rcases acceptStaged_cases s with h | ⟨w, n, -, -, hn, hl, h⟩ <;> rw [h]
  · exact .refl s
  · exact .trans (t := { s with up := { s.up with staging := none } }) ⟨id, id, id, id, id, id⟩
      (acceptInto_keepsTables hn fun _ => hl)

/-! ## Timers, pins and commands -/

theorem tick_keepsTables (s : State) : KeepsTables s (tick s) := by
  have hnumber (t : Tag) : t.tick.number = t.number := by unfold Tag.tick; split <;> rfl
  have hout (t : Tag) : isOutstanding t.tick = true → isOutstanding t = true := by
    unfold Tag.tick
    split
    · rename_i hs
      simp [isOutstanding, hs]
    · exact id
  have hcount : KeepsTables s (countMicrosecond s) :=
    ⟨id, id, fun h => ⟨by simpa [countMicrosecond] using h.holds, h.copies, h.limit⟩, id, id, fun h => h.mapTags hnumber hout⟩
  exact hcount.trans (.of_frame (by simp [tick]) (by simp [tick]) (by simp [tick]) (by simp [tick]) (by simp [tick])
    (by simp [tick]))

theorem portReset_keepsTables (s : State) : KeepsTables s (portReset s) := by
  unfold portReset
  dsimp only
  refine .trans ?_ (.foldl (fun s e => drainAfter_keepsTables e s) _ _)
  refine .trans ?_ (.foldl (fun s e => leaveCount_keepsTables e s) _ _)
  have hdiscard : KeepsTables s (discardHolds s) := by
    refine .trans ?_ (.foldl (fun s h => uncountHold_keepsTables h s) _ _)
    exact .engine_le (Nat.zero_le _) le_rfl rfl
  have hflag (u : State) : KeepsTables u (flagOpenBank u) := by
    unfold flagOpenBank
    split
    exacts [.refl u, .setBank_of_granules rfl rfl rfl]
  refine (hdiscard.trans (hflag _)).trans ⟨id, .of_sublist ?_, id, id, id, id⟩
  simp only [keepIssued, List.map_map]
  exact List.filter_sublist.map _

theorem assertPortReset_keepsTables (s : State) : KeepsTables s (assertPortReset s) := by
  have hpin : KeepsTables s (setPortRstN false s) := .of_frame rfl rfl rfl rfl rfl rfl
  unfold assertPortReset
  split
  · dsimp only
    split
    · exact (hpin.trans (portReset_keepsTables _)).trans
        (.of_frame (by simp) (by simp) (by simp) (by simp) (by simp) (by simp))
    · exact hpin
  · exact .refl s

theorem assertPwrwarn_keepsTables (s : State) : KeepsTables s (assertPwrwarn s) := by
  have hpin : KeepsTables s (setPwrwarn true s) := .of_frame rfl rfl rfl rfl rfl rfl
  have hwarn (u : State) : KeepsTables u (powerWarning u) := by
    rcases powerWarning_cases u with h | ⟨i, -, -, ⟨-, -, h⟩ | ⟨-, h⟩⟩ <;> rw [h]
    exacts [.refl u, acceptCut_keepsTables i _ u, setPowerCutPending_keepsTables _ u]
  unfold assertPwrwarn
  split
  · exact .refl s
  · dsimp only
    split
    · exact (hpin.trans (hwarn _)).trans (.of_frame (by simp) (by simp) (by simp) (by simp) (by simp) (by simp))
    · exact hpin

theorem powerOn_keepsTables (s : State) (pins : Pins) (port : PortState) (q : List Instr) :
    KeepsTables s (powerOn pins port q) :=
  have hinv := inv_powerOn pins port q
  have ⟨ht, he, hl, hf, hp⟩ := capacityInv_iff.1 hinv.capacity
  ⟨fun _ => hinv.dirty, fun _ => ht, fun _ => he, fun _ => hl, fun _ => hf, fun _ => hp⟩

theorem releaseSlots_keepsTables (n : Nat) (s : State) : KeepsTables s (releaseSlots n s).2 := by
  rcases releaseSlots_cases n s with h | h <;> rw [h]
  · exact .refl s
  · refine .trans ?_ (startCopies_keepsTables _)
    rcases reservePendingEnd_cases ({ s with rw := { s.rw with release := s.rw.release + BitVec.ofNat 32 n } }) with h | h <;>
      rw [h]
    · exact .of_frame rfl rfl rfl rfl rfl rfl
    · refine .trans ?_ (reserveEnd_keepsTables _)
      exact .of_frame rfl rfl rfl rfl rfl rfl

theorem abandonCommand_keepsTables (s : State) : KeepsTables s (abandonCommand s).2 := by
  rw [abandonCommand_state]
  refine .trans (t := abandonOpen (abandonCut s)) ?_ ⟨id, id, id, id, id, id⟩
  refine (abandonCut_keepsTables s).trans ?_
  unfold abandonOpen
  split
  exacts [.refl _, endEpoch_keepsTables _ _ _]

theorem setTimeouts_keepsTables (r h : Nat) (s : State) : KeepsTables s (setTimeouts r h s).2 := by
  unfold setTimeouts
  split
  · exact .refl s
  · rename_i hb
    simp only [Bool.or_eq_true, not_or, badLimit, decide_eq_true_eq, Nat.not_lt] at hb
    obtain ⟨⟨hr0, hr1⟩, hh0, hh1⟩ := hb
    exact ⟨id, id, fun he => ⟨he.holds, he.copies, Nat.one_le_iff_ne_zero.2 hh0, hh1⟩, id, id, fun hp =>
      ⟨hp.numbers, hp.range, hp.outstanding, hp.share, hp.counter, hp.idle, Nat.one_le_iff_ne_zero.2 hr0, hr1⟩⟩

theorem setCopyShare_keepsTables (n : Nat) (s : State) : KeepsTables s (setCopyShare n s).2 := by
  unfold setCopyShare
  split
  · exact .refl s
  · rename_i hb
    have hrange : 1 ≤ n ∧ n ≤ 255 := by omega
    exact ⟨id, id, id, id, id, fun hp =>
      ⟨hp.numbers, hp.range, hp.outstanding, hrange, hp.counter, hp.idle, hp.limit⟩⟩

theorem readFault_keepsTables (s : State) : KeepsTables s (readFault s).2 := by
  unfold readFault
  split
  · exact .refl s
  · rename_i r rest hr
    refine ⟨id, id, id, id, fun hf => ⟨?_, Nat.zero_le _, fun h0 => absurd h0 (Nat.lt_irrefl 0)⟩, id⟩
    have := hf.records
    rw [hr, List.length_cons] at this
    exact (Nat.le_succ _).trans this

theorem setRingLow_keepsTables (n : Nat) (s : State) : KeepsTables s (setRingLow n s).2 := by
  unfold setRingLow
  split
  exacts [.refl s, .of_frame rfl rfl rfl rfl rfl rfl]

theorem setCounter_keepsTables (c e d w r sc en : Nat) (s : State) : KeepsTables s (setCounter c e d w r sc en s).2 := by
  unfold setCounter
  split
  · exact .refl s
  · split
    exacts [.refl s, .of_frame rfl rfl rfl rfl rfl rfl]

theorem clearCounter_keepsTables (c : Nat) (s : State) : KeepsTables s (clearCounter c s).2 := by
  unfold clearCounter
  split
  exacts [.refl s, .of_frame rfl rfl rfl rfl rfl rfl]

theorem csFall_keepsTables (s : State) : KeepsTables s (csFall s) := by
  unfold csFall
  dsimp only
  split
  · split
    exacts [.of_frame rfl rfl rfl rfl rfl rfl, .of_frame rfl rfl rfl rfl rfl rfl]
  · exact .refl s

theorem csRise_keepsTables (s : State) : KeepsTables s (csRise s) := by
  unfold csRise
  split
  exacts [.refl s, .of_frame rfl rfl rfl rfl rfl rfl]

theorem releaseReset_keepsTables (s : State) : KeepsTables s (releaseReset s) := by
  unfold releaseReset
  split
  exacts [.refl s, ⟨id, id, id, id, id, id⟩]

theorem deassertPortReset_keepsTables (s : State) : KeepsTables s (deassertPortReset s) := by
  unfold deassertPortReset
  dsimp only
  split
  · exact .refl s
  · split
    exacts [⟨id, id, id, id, id, id⟩, ⟨id, id, id, id, id, id⟩]

theorem stageWrite_keepsTables (w : WriteTxn) (s : State) : KeepsTables s (stageWrite w s) := by
  unfold stageWrite
  split
  exacts [⟨id, id, id, id, id, id⟩, .refl s]

/-! ## Every command keeps the tables -/

theorem effect_keepsTables (c : Instr) (s : State) : KeepsTables s (effect c s) := by
  have hwu (wu : WindowUnit) : KeepsTables s { s with wu := wu } := .of_frame rfl rfl rfl rfl rfl rfl
  have hwindow (n : Nat) (w : Option Window) : KeepsTables s (setWindow n w s) := .of_frame rfl rfl rfl rfl rfl rfl
  have hplace (p : Option RingPlace) : KeepsTables s (placeRing p s) := .of_frame rfl rfl rfl rfl rfl rfl
  cases c
  case setMode m => rcases setMode_cases m s with h | h | ⟨-, -, -, h⟩ <;> rw [effect, h] <;> exact hwu _
  case setMemoryLimit l => rcases setMemoryLimit_cases l s with h | ⟨-, -, -, -, h⟩ <;> rw [effect, h] <;> exact hwu _
  case mapInitiator i d => rcases mapInitiator_cases i d s with h | ⟨_, -, h⟩ <;> rw [effect, h] <;> exact hwu _
  case installWindow n d a g e b k j =>
    rcases installWindow_cases n d a g e b k j s with h | ⟨_, -, -, h⟩ <;> rw [effect, h]
    exacts [.refl s, hwindow _ _]
  case removeWindow n =>
    rcases removeWindow_cases n s with h | h <;> rw [effect, h]
    exacts [.refl s, hwindow _ _]
  case extendWindow n e =>
    rcases extendWindow_cases n e s with h | ⟨_, -, -, -, -, h⟩ <;> rw [effect, h]
    exacts [.refl s, hwindow _ _]
  case setKey n k =>
    rcases setKey_cases n k s with h | ⟨_, _, -, -, h⟩ <;> rw [effect, h]
    exacts [.refl s, hwindow _ _]
  case configureRing b n =>
    rcases configureRing_cases b n s with h | h | ⟨_, -, -, -, -, -, h⟩ <;> rw [effect, h]
    exacts [.refl s, hplace _, hplace _]
  case unconfigureRing =>
    rcases unconfigureRing_cases s with h | h <;> rw [effect, h]
    exacts [.refl s, hplace _]
  case setTimeouts r h => exact setTimeouts_keepsTables r h s
  case setCopyShare n => exact setCopyShare_keepsTables n s
  case journalStart n =>
    rcases journalStart_cases n s with h | ⟨i, -, -, -, -, -, h⟩ <;> rw [effect, h]
    · exact .refl s
    · exact (openWith_keepsTables i n s).trans ⟨id, id, id, id, id, id⟩
  case cut =>
    rcases cutCommand_cases s with h | ⟨i, -, -, -, h⟩ <;> rw [effect, h]
    exacts [.refl s, acceptCut_keepsTables i _ s]
  case journalStop =>
    rcases stopCommand_cases s with h | ⟨i, -, -, h⟩ <;> rw [effect, h]
    exacts [.refl s, acceptCut_keepsTables i _ s]
  case abandon => exact abandonCommand_keepsTables s
  case releaseSlots n => exact releaseSlots_keepsTables n s
  case readFault => exact readFault_keepsTables s
  case rstNAssert =>
    rw [effect, assertReset]
    split
    exacts [powerOn_keepsTables .., .refl s]
  case portRstNAssert => exact assertPortReset_keepsTables s
  case pwrwarnAssert => exact assertPwrwarn_keepsTables s
  case acceptance p =>
    cases p
    exacts [acceptRead_keepsTables _ s, acceptStaged_keepsTables s]
  case grant => exact grantNext_keepsTables s
  case responseOkay r => exact takeResponse_keepsTables .okay r s
  case responseError r => exact takeResponse_keepsTables .error r s
  case lateResponse d r => exact takeResponse_keepsTables d r s
  case responseTimerExpiry n => exact expireResponse_keepsTables n s
  case holdTimerExpiry n => exact expireHold_keepsTables n s
  case usTick => exact tick_keepsTables s
  case setRingLow n => exact setRingLow_keepsTables n s
  case setCounter c e d w r sc en => exact setCounter_keepsTables c e d w r sc en s
  case clearCounter c => exact clearCounter_keepsTables c s
  case csNFall => exact csFall_keepsTables s
  case csNRise => exact csRise_keepsTables s
  case rstNRelease => exact releaseReset_keepsTables s
  case portRstNDeassert => exact deassertPortReset_keepsTables s
  case writeStaging w => exact stageWrite_keepsTables w s
  all_goals
    exact .of_frame (by simp [effect]) (by simp [effect]) (by simp [effect]) (by simp [effect]) (by simp [effect])
      (by simp [effect])

theorem exec_keepsTables {c : Instr} {s t : State} (h : exec c s = .next t) : KeepsTables s t :=
  exec_preserves (P := KeepsTables s)
    (fun _ _ ha => ha.trans (.of_frame (by simp) (by simp) (by simp) (by simp) (by simp) (by simp)))
    (fun _ _ ha => ha.trans (.of_frame (by simp) (by simp) (by simp) (by simp) (by simp) (by simp))) (.refl s)
    (effect_keepsTables c s) h

/-- Settles O59: every operation keeps the lists and the bounds of each block (`KeepsTables`). -/
theorem tableBoundsKept : Obligations.TableBoundsKept := by
  intro s t ht
  have hkeeps : KeepsTables s t := by
    rcases step_cases ht with ⟨-, rfl⟩ | ⟨c, rest, -, hc⟩
    · exact .refl _
    · exact .trans (t := setPending rest s) (.of_frame rfl rfl rfl rfl rfl rfl) (exec_keepsTables hc)
  exact ⟨hkeeps.lists, hkeeps.capacityInv⟩

end Sys2Proof.Safety


/-! # Reading the journal (R45 to R47) -/

namespace Sys2Proof.Safety

open Sys2Proof.Machine

theorem bankOf_code (i : BankId) : bankOf i.code = some i := by cases i <;> rfl

theorem bankOf_none {n : Nat} (h : 1 < n) : bankOf n = none := by
  rcases n with _ | _ | n
  · omega
  · omega
  · rfl

theorem readBank_badParam {n i : Nat} {s : State} (h : 1 < n ∨ 4095 < i) : readBank n i s = refuse .badParam s := by
  unfold readBank
  split
  · rfl
  · rename_i hn
    have hi : 4095 < i := h.resolve_left fun h1 => by simp [bankOf_none h1] at hn
    exact if_pos hi

theorem readSpill_badParam {n i : Nat} {s : State} (h : 1 < n ∨ 63 < i) : readSpill n i s = refuse .badParam s := by
  unfold readSpill
  split
  · rfl
  · rename_i hn
    have hi : 63 < i := h.resolve_left fun h1 => by simp [bankOf_none h1] at hn
    exact if_pos hi

/-- A page holds what is left of the list, up to its size. -/
theorem length_page {α : Type} (start size : Nat) (l : List α) : (page start size l).length = min size (l.length - start) := by
  simp [page]

/-- The two flags of a byte. -/
theorem bits_pair (x y : Bool) : bits [x, y] = x.toNat + 2 * y.toNat := rfl

theorem readBank_taken {i : BankId} {n : Nat} {s : State} (h : n ≤ 4095) :
    readBank i.code n s = taken (bankData (bank s i) n) s := by
  rw [readBank, bankOf_code]
  exact if_neg (by omega)

theorem readSpill_taken {i : BankId} {n : Nat} {s : State} (h : n ≤ 63) :
    readSpill i.code n s = taken (beBytes 1 (bank s i).spill.length ++ beBytes 1 (page n 8 (bank s i).spill).length ++
      (page n 8 (bank s i).spill).flatMap spillBytes) s := by
  rw [readSpill, bankOf_code]
  exact if_neg (by omega)

/-! ## LOOKUP_GRANULE -/

@[simp] theorem length_lookupBytes (b : Bank) (g : Nat) : (lookupBytes b g).length = 10 := by
  simp [lookupBytes, bankBytes, optBytes, Laws.FrameLength.length_beBytes]

theorem inSpill_iff {b : Bank} {g : Nat} : b.inSpill g = true ↔ ∃ e ∈ b.spill, e.low ≤ g ∧ g ≤ e.high := by
  simp [Bank.inSpill]

/-- A granule that is not listed: the index, the state and the count are absent. -/
theorem lookupBytes_absent {b : Bank} {g : Nat} (h : ∀ d ∈ b.dirty, d.granule ≠ g) :
    lookupBytes b g = beBytes 1 b.state.code ++ beBytes 4 (b.epoch.getD 0) ++ beBytes 1 (2 * (b.inSpill g).toNat) ++
      [0#8, 0#8, 0#8, 0#8] := by
  have hindex : (b.dirty.findIdx? fun d => decide (d.granule = g)) = none := by simpa using h
  have hbits : bits [false, b.inSpill g] = 2 * (b.inSpill g).toNat := by simp [bits_pair]
  simp only [lookupBytes, hindex, entryOf_none.2 h, Option.isSome_none, hbits, Option.map_none, optBytes, Option.getD_none,
    bankBytes, List.append_assoc]
  rfl

/-- A listed granule: its index, its entry's state and its held-write count. -/
theorem lookupBytes_listed {b : Bank} {g n : Nat} {d : DirtyEntry} (hd : b.dirty[n]? = some d) (hg : d.granule = g)
    (hfirst : ∀ m x, m < n → b.dirty[m]? = some x → x.granule ≠ g) :
    lookupBytes b g = beBytes 1 b.state.code ++ beBytes 4 (b.epoch.getD 0) ++ beBytes 1 (1 + 2 * (b.inSpill g).toNat) ++
      beBytes 2 n ++ beBytes 1 d.state.code ++ beBytes 1 d.held := by
  obtain ⟨hn, rfl⟩ := List.getElem?_eq_some_iff.1 hd
  have hbefore (m : Nat) (hm : m < n) : b.dirty[m].granule ≠ g := hfirst m _ hm (List.getElem?_eq_getElem _)
  have hindex : (b.dirty.findIdx? fun d => decide (d.granule = g)) = some n :=
    List.findIdx?_eq_some_iff_getElem.2 ⟨hn, by simpa using hg, fun m hm => by simpa using hbefore m hm⟩
  have hentry : b.entryOf g = some b.dirty[n] :=
    List.find?_eq_some_iff_getElem.2 ⟨by simpa using hg, n, hn, rfl, fun m hm => by simpa using hbefore m hm⟩
  simp only [lookupBytes, hindex, hentry, Option.isSome_some, bits_pair, Option.map_some, optBytes, Option.getD_some, bankBytes,
    Bool.toNat_true, List.append_assoc]

theorem lookupGranule_taken {g : Nat} {s : State} (h : g < 2 ^ 28) :
    lookupGranule g s = taken (lookupBytes s.ju.bankA g ++ lookupBytes s.ju.bankB g) s := by
  have hg : ¬ Config.granuleSpace ≤ g := by simp only [Config.granuleSpace]; omega
  exact if_neg hg

/-- Settles O20: the checks, the pages, and the two results of a lookup by what the bank lists. -/
theorem readJournal : Obligations.ReadJournal := by
  intro s hr
  refine ⟨fun n i h => refuses_of_body rfl hr (readBank_badParam h), fun n i h => refuses_of_body rfl hr (readSpill_badParam h),
    fun g h => refuses_of_body rfl hr (if_pos h), ?_, ?_, fun g hg => ?_⟩
  · rintro name i k rfl hi
    refine answers_of_body rfl hr ((readBank_taken hi).trans ?_) rfl
    rw [bankData, length_page, bits_pair]
    rfl
  · rintro name i k rfl hi
    refine answers_of_body rfl hr ((readSpill_taken hi).trans ?_) rfl
    rw [length_page]
    rfl
  · refine ⟨lookupBytes s.ju.bankA g, lookupBytes s.ju.bankB g, length_lookupBytes _ _, length_lookupBytes _ _,
      answers_of_body rfl hr (lookupGranule_taken hg) rfl, ?_⟩
    rintro name k r inside rfl hres hinside
    have hbytes : r = lookupBytes (bank s name) g := by cases name <;> exact hres
    have hin : inside = (bank s name).inSpill g := Bool.eq_iff_iff.2 (hinside.trans inSpill_iff.symm)
    rw [hbytes, hin]
    exact ⟨lookupBytes_absent, fun n d => lookupBytes_listed⟩

end Sys2Proof.Safety


/-! # Banks found by state and by epoch -/

namespace Sys2Proof.Safety

open Sys2Proof.Machine

section Found

variable {s : State} {i : BankId}

theorem JournalInv.openBank_eq (h : JournalInv s) (hi : (bank s i).state = .opened) : openBank s = some i :=
  findBank_of_unique (by simpa using hi) (by simpa using fun ho => (h.shape i).oneOpen ⟨hi, ho⟩)

theorem JournalInv.other_not_cut (h : JournalInv s) (hi : (bank s i).state.isCut = true) :
    (bank s i.other).state.isCut = false := by
  simpa using fun ho => (h.shape i).oneCut ⟨hi, ho⟩

theorem JournalInv.cutBank_eq (h : JournalInv s) (hi : (bank s i).state.isCut = true) : cutBank s = some i :=
  findBank_of_unique hi (h.other_not_cut hi)

/-- No two banks hold one epoch, so the search for an epoch finds its bank. -/
theorem JournalInv.bankOfEpoch_iff (h : JournalInv s) {e : Nat} : bankOfEpoch e s = some i ↔ (bank s i).epoch = some e := by
  refine ⟨bankOfEpoch_some, fun he => findBank_of_unique (by simpa using he) ?_⟩
  simpa using (h.shape i).epochsDiffer e he

theorem openBank_none (h : ∀ i, (bank s i).state ≠ .opened) : openBank s = none :=
  findBank_none.2 fun i => by simpa using h i

theorem bankOfEpoch_eq_none {e : Nat} (h : ∀ i, (bank s i).epoch ≠ some e) : bankOfEpoch e s = none :=
  findBank_none.2 fun i => by simpa using h i

end Found

end Sys2Proof.Safety


/-! # The tag and the mark of a guarded write (R34, R37, R39) -/

namespace Sys2Proof.Safety

open Sys2Proof.Machine

theorem tagWrite_off {n : Nat} {s : State} (h : s.ec.journal = .off) : tagWrite n s = s := by
  simp [tagWrite, h]

theorem markWrite_off {r : LookupResult} {g : Nat} {s : State} (h : s.ec.journal = .off) : markWrite r g s = s := by
  simp [markWrite, h]

theorem markWrite_unjournaled {r : LookupResult} {g : Nat} {s : State} (h : r.journaled = false) : markWrite r g s = s := by
  unfold markWrite
  split
  · simp [h]
  · rfl

theorem tagWrite_recording {n : Nat} {s : State} {i : BankId} (hj : s.ec.journal = .recording) (hi : openBank s = some i) :
    tagWrite n s = changeEntry n (fun e => { e with epochTag := (bank s i).epoch })
      (setBank i { bank s i with settle := (bank s i).settle + 1 } s) := by
  simp only [tagWrite, hj, hi]

theorem markWrite_recording {r : LookupResult} {g w : Nat} {s : State} {i : BankId} (hj : s.ec.journal = .recording)
    (hi : openBank s = some i) (hw : r.window = some w) (hr : r.journaled = true) :
    markWrite r g s = markGranule i g w r.domain s := by
  simp only [markWrite, hj, hi, hw]
  exact if_pos hr

section Mark

variable {i : BankId} {g w : Nat} {d : Option Nat} {s : State}

theorem markGranule_listed (h : ∃ d ∈ (bank s i).dirty, d.granule = g) : markGranule i g w d s = s := by
  refine if_pos ?_
  rw [Option.isSome_iff_ne_none, ne_eq, entryOf_none]
  push Not
  exact h

theorem markGranule_appended (h : ∀ d ∈ (bank s i).dirty, d.granule ≠ g) (hl : (bank s i).dirty.length < 4096) :
    markGranule i g w d s = report { event := .marked, domain := d, window := some w } 1
      (setBank i { bank s i with
        dirty := (bank s i).dirty ++ [{ granule := g, state := .pending, held := 0 }]
        listed := (bank s i).listed + 1 } s) := by
  have hl' : (bank s i).dirty.length < Config.dirtyEntries := hl
  simp [markGranule, entryOf_none.2 h, hl']

theorem markGranule_spilled (h : ∀ d ∈ (bank s i).dirty, d.granule ≠ g) (hl : 4096 ≤ (bank s i).dirty.length) :
    markGranule i g w d s =
      if (bank s i).spill.isEmpty then
        raiseCause .spill
          (report { event := .spilled } 1 (setBank i { bank s i with spill := spillThrough w g (bank s i).spill } s))
      else report { event := .spilled } 1 (setBank i { bank s i with spill := spillThrough w g (bank s i).spill } s) := by
  have hl' : ¬ (bank s i).dirty.length < Config.dirtyEntries := Nat.not_lt.2 hl
  simp [markGranule, entryOf_none.2 h, hl']

end Mark

theorem spillThrough_new {w g : Nat} {spill : List SpillEntry} (h : ∀ x ∈ spill, x.window ≠ w) :
    spillThrough w g spill = spill ++ [{ window := w, low := g, high := g }] :=
  if_neg (by simpa using h)

theorem spillThrough_widened {w g : Nat} {xs ys : List SpillEntry} {x : SpillEntry} (hx : x.window = w)
    (h : ∀ y ∈ xs ++ ys, y.window ≠ w) :
    spillThrough w g (xs ++ x :: ys) = xs ++ { window := w, low := min x.low g, high := max x.high g } :: ys := by
  have hmap {l : List SpillEntry} (hl : ∀ y ∈ l, y.window ≠ w) :
      (l.map fun e => if e.window = w then e.widen g else e) = l :=
    (List.map_congr_left fun y hy => if_neg (hl y hy)).trans (List.map_id' l)
  have hany : ((xs ++ x :: ys).any fun e => decide (e.window = w)) = true := by simp [hx]
  rw [spillThrough, if_pos hany, List.map_append, List.map_cons, hmap fun y hy => h y (by simp [hy]),
    hmap fun y hy => h y (by simp [hy]), if_pos hx, SpillEntry.widen, hx]

/-- With each window once in the list, the two forms of a spill are all there are. -/
theorem eq_spillThrough {w g : Nat} {spill old : List SpillEntry} (hn : (old.map SpillEntry.window).Nodup)
    (hnew : (∀ x ∈ old, x.window ≠ w) → spill = old ++ [{ window := w, low := g, high := g }])
    (hwide : ∀ xs x ys, old = xs ++ x :: ys → x.window = w → (∀ y ∈ xs ++ ys, y.window ≠ w) →
      spill = xs ++ { window := w, low := min x.low g, high := max x.high g } :: ys) : spill = spillThrough w g old := by
  by_cases hw : ∀ x ∈ old, x.window ≠ w
  · rw [hnew hw, spillThrough_new hw]
  · push Not at hw
    obtain ⟨x, hx, rfl⟩ := hw
    obtain ⟨xs, ys, rfl⟩ := List.append_of_mem hx
    have hothers : ∀ y ∈ xs ++ ys, y.window ≠ x.window := by
      have hperm := (List.perm_middle (a := x) (l₁ := xs) (l₂ := ys)).map SpillEntry.window
      have hcons := hperm.nodup_iff.1 hn
      rw [List.map_cons, List.nodup_cons] at hcons
      exact fun y hy he => hcons.1 (he ▸ List.mem_map_of_mem hy)
    rw [hwide xs x ys rfl rfl hothers, spillThrough_widened rfl hothers]

/-- Settles O33: `tagWrite` and `markWrite` reach the one OPEN bank, and the mark is one of the three cases of `markGranule`. -/
theorem tagAndMark : Obligations.TagAndMark := by
  intro s n g w r hinv
  refine ⟨fun h => ⟨tagWrite_off h, markWrite_off h⟩, markWrite_unjournaled, ?_⟩
  rintro i k hj rfl hopen
  have hi := hinv.openBank_eq hopen
  refine ⟨tagWrite_recording hj hi, fun hr hw => ?_⟩
  rw [markWrite_recording hj hi hw hr]
  refine ⟨markGranule_listed, markGranule_appended, fun hnew hlen spill u hadd hwide hn hu => ?_⟩
  obtain rfl := eq_spillThrough hn hadd hwide
  rw [markGranule_spilled hnew hlen, ← hu]
  exact ⟨fun he => by rw [he]; rfl, fun he => if_neg (by simpa using he)⟩

end Sys2Proof.Safety


/-! # What the starts of copies leave of the banks and the queues (R83) -/

namespace Sys2Proof.Safety

open Sys2Proof.Machine

/-- What the starts of copies may do to a bank: entries become COPYING, the urgent count rises. -/
structure StartsCopies (b c : Bank) : Prop where
  same : c = { b with dirty := c.dirty, urgent := c.urgent }
  granules : c.dirty.map DirtyEntry.granule = b.dirty.map DirtyEntry.granule
  helds : c.dirty.map DirtyEntry.held = b.dirty.map DirtyEntry.held
  waiting : (∀ d ∈ b.dirty, d.state.isWaiting = true) → ∀ d ∈ c.dirty, d.state.isWaiting = true

theorem StartsCopies.refl (b : Bank) : StartsCopies b b := ⟨rfl, rfl, rfl, id⟩

theorem StartsCopies.trans {b c d : Bank} (h : StartsCopies b c) (k : StartsCopies c d) : StartsCopies b d :=
  ⟨by rw [k.same, h.same], k.granules.trans h.granules, k.helds.trans h.helds, k.waiting ∘ h.waiting⟩

@[simp] theorem setEntry_helds (b : Bank) (n : Nat) (st : EntryState) :
    (b.setEntry n st).dirty.map DirtyEntry.held = b.dirty.map DirtyEntry.held := by
  apply List.ext_getElem <;> simp [Bank.setEntry, List.getElem_modify, apply_ite]

/-- An entry of a list after a change at one index is an old one or the changed one. -/
theorem mem_modify {α : Type} {f : α → α} {l : List α} {n : Nat} {x : α} (h : x ∈ l.modify n f) :
    x ∈ l ∨ ∃ y ∈ l, x = f y := by
  obtain ⟨m, hm, rfl⟩ := List.mem_iff_getElem.1 h
  rw [List.getElem_modify]
  split
  · exact .inr ⟨_, List.getElem_mem _, rfl⟩
  · exact .inl (List.getElem_mem _)

theorem startsCopies_setEntry (b : Bank) (n u : Nat) : StartsCopies b { b.setEntry n .copying with urgent := u } := by
  refine ⟨rfl, setEntry_granules b n _, setEntry_helds b n _, fun h d hd => ?_⟩
  rcases mem_modify hd with hd | ⟨x, -, rfl⟩
  exacts [h d hd, rfl]

theorem startCopy_banks (i : BankId) (n : Nat) (byHold : Bool) (s : State) (j : BankId) :
    StartsCopies (bank s j) (bank (startCopy i n byHold s) j) := by
  obtain ⟨u, hju⟩ := startCopy_ju i n byHold s
  rw [bank_congr hju]
  rcases BankId.eq_or_other i j with rfl | rfl
  · rw [bank_setBank]
    exact startsCopies_setEntry _ n u
  · rw [bank_other_setBank]
    exact .refl _

theorem startCopies_banks (s : State) (j : BankId) : StartsCopies (bank s j) (bank (startCopies s) j) :=
  startCopies_induction (P := fun t => StartsCopies (bank s j) (bank t j)) (.refl _) fun t i n byHold h _ _ _ _ =>
    h.trans (startCopy_banks i n byHold t j)

@[simp] theorem startCopies_holdQueue (s : State) : (startCopies s).ce.holdQueue = s.ce.holdQueue :=
  startCopies_induction (P := fun t => t.ce.holdQueue = s.ce.holdQueue) rfl fun t i n byHold h _ _ _ _ =>
    (startCopy_ce i n byHold t).1.trans h

@[simp] theorem startCopies_holdLimit (s : State) : (startCopies s).ce.holdLimit = s.ce.holdLimit :=
  startCopies_induction (P := fun t => t.ce.holdLimit = s.ce.holdLimit) rfl fun t i n byHold h _ _ _ _ =>
    (startCopy_ce i n byHold t).2.1.trans h

@[simp] theorem startCopies_passThrough (s : State) : (startCopies s).dp.passThrough = s.dp.passThrough := by
  refine startCopies_induction (P := fun t => t.dp.passThrough = s.dp.passThrough) rfl fun t i n byHold h _ _ _ _ => ?_
  obtain ⟨us, bs, hdp⟩ := startCopy_dp i n byHold t
  rw [hdp, ← h]

@[simp] theorem startCopies_tags (s : State) : (startCopies s).dp.tags = s.dp.tags := by
  refine startCopies_induction (P := fun t => t.dp.tags = s.dp.tags) rfl fun t i n byHold h _ _ _ _ => ?_
  obtain ⟨us, bs, hdp⟩ := startCopy_dp i n byHold t
  rw [hdp, ← h]

theorem StartsCopies.state {b c : Bank} (h : StartsCopies b c) : c.state = b.state := by rw [h.same]

theorem StartsCopies.length {b c : Bank} (h : StartsCopies b c) : c.dirty.length = b.dirty.length := by
  simpa using congrArg List.length h.granules

/-- No copy starts while no DRAINING bank has a PENDING entry. -/
theorem startCopies_of_noPending {s : State}
    (h : ∀ i, (bank s i).state = .draining → ∀ d ∈ (bank s i).dirty, d.state ≠ .pending) :
    startCopies s = s := by
  have hwants : wantsCopy s = false := by
    unfold wantsCopy
    cases hi : drainingBank s with
    | none => simp
    | some i =>
      have hnone : (bank s i).firstPending = none := by
        simpa [Bank.firstPending] using h i (drainingBank_some hi)
      simp [hnone]
  simp [startCopies, Config.copyOperations, startCopiesUpTo, hwants]

theorem startCopies_of_noDraining {s : State} (h : ∀ i, (bank s i).state ≠ .draining) : startCopies s = s :=
  startCopies_of_noPending fun i hi => absurd hi (h i)

/-! ## The close of a bank with every entry resolved (R30) -/

theorem allResolved_iff {b : Bank} : b.allResolved = true ↔ ∀ d ∈ b.dirty, d.state.isWaiting = false := by
  simp [Bank.allResolved]

theorem closeIfResolved_of_resolved {s : State} {i : BankId} (h : (bank s i).state = .draining)
    (hd : ∀ d ∈ (bank s i).dirty, d.state.isWaiting = false) :
    closeIfResolved i s = requestEnd (bank s i).epoch (setBank i { bank s i with state := .closing } s) :=
  if_pos ⟨h, allResolved_iff.2 hd⟩

theorem closeIfResolved_of_not {s : State} {i : BankId}
    (h : (bank s i).state ≠ .draining ∨ ∃ d ∈ (bank s i).dirty, d.state.isWaiting = true) : closeIfResolved i s = s := by
  refine if_neg fun ⟨hs, hr⟩ => ?_
  obtain ⟨d, hd, hw⟩ := h.resolve_left (fun hn => hn hs)
  simp [allResolved_iff.1 hr d hd] at hw

/-! ## A settled bank (R29, R30) -/

section Settled

variable {s : State} {i : BankId}

theorem drainIfSettled_of_not (h : (bank s i).state ≠ .settling ∨ (bank s i).settle ≠ 0) : drainIfSettled i s = s :=
  if_neg fun ⟨hs, h0⟩ => h.elim (fun hn => hn hs) fun hn => hn h0

theorem drainIfSettled_of_settled (hs : (bank s i).state = .settling) (h0 : (bank s i).settle = 0) :
    drainIfSettled i s = closeIfResolved i (startCopies (setBank i { bank s i with state := .draining } s)) :=
  if_pos ⟨hs, h0⟩

/-- A bank that lists nothing closes at once. -/
theorem drainIfSettled_of_empty (hother : (bank s i.other).state ≠ .draining) (hs : (bank s i).state = .settling)
    (h0 : (bank s i).settle = 0) (hd : (bank s i).dirty = []) :
    drainIfSettled i s = requestEnd (bank s i).epoch (setBank i { bank s i with state := .closing } s) := by
  have hstart : startCopies (setBank i { bank s i with state := .draining } s) =
      setBank i { bank s i with state := .draining } s := by
    refine startCopies_of_noPending fun j hj => ?_
    rcases BankId.eq_or_other i j with rfl | rfl
    · simp [hd]
    · exact absurd (by simpa using hj) hother
  rw [drainIfSettled_of_settled hs h0, hstart, closeIfResolved_of_resolved (by simp) (by simp [hd])]
  simp

/-- A bank with entries that wait drains. -/
theorem drainIfSettled_of_pending (hs : (bank s i).state = .settling) (h0 : (bank s i).settle = 0)
    (hd : (bank s i).dirty ≠ []) (hp : ∀ d ∈ (bank s i).dirty, d.state = .pending) :
    drainIfSettled i s = startCopies (setBank i { bank s i with state := .draining } s) := by
  have hstarts := startCopies_banks (setBank i { bank s i with state := .draining } s) i
  rw [bank_setBank] at hstarts
  have hwait := hstarts.waiting fun d hd => by rw [hp d hd]; rfl
  have hlen := hstarts.length
  rw [drainIfSettled_of_settled hs h0]
  refine closeIfResolved_of_not (.inr ?_)
  obtain ⟨d, hmem⟩ := List.exists_mem_of_ne_nil _
    (List.ne_nil_of_length_pos (hlen ▸ List.length_pos_of_ne_nil hd))
  exact ⟨d, hmem, hwait d hmem⟩

end Settled

/-! ## The completion of a write (R35, R50) -/

theorem completeWrite_read {e : TrackerEntry} {s : State} (h : e.stream.direction = .read) : completeWrite e s = s := by
  simp [completeWrite, leaveCount, drainAfter, h]

theorem completeWrite_untagged {e : TrackerEntry} {s : State} (h : e.stream.direction = .write) (ht : e.epochTag = none)
    (hm : e.mode = .guarded) : completeWrite e s = s := by
  simp [completeWrite, leaveCount, drainAfter, h, ht, hm]

theorem completeWrite_transparent {e : TrackerEntry} {s : State} (h : e.stream.direction = .write) (ht : e.epochTag = none)
    (hm : e.mode = .transparent) :
    completeWrite e s = { s with ec := { s.ec with transparentWrites := s.ec.transparentWrites - 1 } } := by
  simp [completeWrite, leaveCount, drainAfter, h, ht, hm]

theorem completeWrite_tagged {e : TrackerEntry} {s : State} {x : Nat} (h : e.stream.direction = .write)
    (ht : e.epochTag = some x) : completeWrite e s = drainEpoch x (countSettled x s) := by
  simp [completeWrite, leaveCount, drainAfter, h, ht]

theorem completeWrite_ofBank {e : TrackerEntry} {s : State} {x : Nat} {i : BankId} (h : e.stream.direction = .write)
    (ht : e.epochTag = some x) (hi : bankOfEpoch x s = some i) :
    completeWrite e s = drainIfSettled i (setBank i { bank s i with settle := (bank s i).settle - 1 } s) := by
  rw [completeWrite_tagged h ht, drainEpoch, bankOfEpoch_countSettled, hi]
  simp only [countSettled, hi]

theorem completeWrite_ofNoBank {e : TrackerEntry} {s : State} {x : Nat} (h : e.stream.direction = .write)
    (ht : e.epochTag = some x) (hn : bankOfEpoch x s = none) : completeWrite e s = s := by
  rw [completeWrite_tagged h ht, drainEpoch, bankOfEpoch_countSettled, hn]
  simp only [countSettled, hn]

/-- A SETTLING bank is the one cut bank, so the other one is not DRAINING. -/
theorem JournalInv.other_not_draining {s : State} {i : BankId} (h : JournalInv s) (hi : (bank s i).state.isCut = true) :
    (bank s i.other).state ≠ .draining := by
  intro hd
  have := h.other_not_cut hi
  simp [hd, BankState.isCut] at this

/-- Settles O41: the write leaves its count, and `drainIfSettled` of the bank of its epoch is each of the three cases. -/
theorem settleAndDrain : Obligations.SettleAndDrain := by
  intro s e hinv
  refine ⟨completeWrite_read, completeWrite_untagged, completeWrite_transparent, fun x h ht => ⟨fun hn => ?_, ?_⟩⟩
  · exact completeWrite_ofNoBank h ht (bankOfEpoch_eq_none hn)
  · rintro i k rfl hx
    rw [completeWrite_ofBank h ht (hinv.bankOfEpoch_iff.2 hx)]
    refine ⟨fun hk => ?_, fun hs hle hd => ?_, fun hs hle hd hp => ?_⟩
    · exact drainIfSettled_of_not (by simpa using hk.imp_right fun h2 => by omega)
    · have hzero : (bank s i).settle - 1 = 0 := by omega
      rw [drainIfSettled_of_empty (by simpa using hinv.other_not_draining (by rw [hs]; rfl)) (by simpa using hs)
        (by simpa using hzero) (by simpa using hd)]
      simp [hzero, hx]
    · have hzero : (bank s i).settle - 1 = 0 := by omega
      rw [drainIfSettled_of_pending (by simpa using hs) (by simpa using hzero) (by simpa using hd) (by simpa using hp)]
      simp [hzero]

end Sys2Proof.Safety


/-! # The release of held writes (R43, R78, R90) -/

namespace Sys2Proof.Safety

open Sys2Proof.Machine

/-! ## The walk of a scan -/

/-- One entry more at the end of the queue: it leaves when it is ready and nothing of its stream stays before it. -/
theorem scanHolds_append (ready : HoldEntry → Bool) (k hs : List HoldEntry) (h : HoldEntry) :
    scanHolds ready k (hs ++ [h]) =
      if (ready h && (scanHolds ready k hs).1.all fun x => decide (x.stream ≠ h.stream)) = true then
        ((scanHolds ready k hs).1, (scanHolds ready k hs).2 ++ [h])
      else ((scanHolds ready k hs).1 ++ [h], (scanHolds ready k hs).2) := by
  induction hs generalizing k with
  | nil => simp [scanHolds]
  | cons x xs ih =>
    simp only [List.cons_append, scanHolds]
    split
    · rw [ih]
      split <;> rfl
    · exact ih _

theorem granuleResolved_iff {s : State} {h : HoldEntry} :
    granuleResolved s h = true ↔
      h.waitsOn = none ∨ ∃ g e i d, h.waitsOn = some (g, e) ∧ bankOfEpoch e s = some i ∧ (bank s i).entryOf g = some d ∧
        (d.state = .copied ∨ d.state = .skipped) := by
  have hstate (d : DirtyEntry) : (!d.state.isWaiting) = true ↔ d.state = .copied ∨ d.state = .skipped := by
    cases d.state <;> simp [EntryState.isWaiting]
  unfold granuleResolved
  cases h.waitsOn with
  | none => simp
  | some x =>
    obtain ⟨g, e⟩ := x
    cases hi : bankOfEpoch e s with
    | none => simp [hi]
    | some i =>
      cases hd : (bank s i).entryOf g with
      | none => simp [hi, hd]
      | some d => simp [hi, hd, ← hstate]

/-! ## The held-write counts -/

/-- The entries of a queue that wait on a granule of a bank. -/
def holdsOn (s : State) (i : BankId) (g : Nat) (hs : List HoldEntry) : List HoldEntry :=
  hs.filter fun h => h.waitsOn.any fun x => x.1 = g ∧ bankOfEpoch x.2 s = some i

/-- A bank whose entries the held writes of a queue have left (R43). -/
def uncounted (s : State) (i : BankId) (hs : List HoldEntry) : Bank :=
  { bank s i with dirty := (bank s i).dirty.map fun d => { d with held := d.held - (holdsOn s i d.granule hs).length } }

/-- The state with other banks. -/
def withBanks (a b : Bank) (s : State) : State := { s with ju := { bankA := a, bankB := b } }

theorem uncounted_nil (s : State) (i : BankId) : uncounted s i [] = bank s i := by
  simp [uncounted, holdsOn]

theorem uncountHold_eq (h : HoldEntry) (s : State) :
    uncountHold h s = withBanks (uncounted s .a [h]) (uncounted s .b [h]) s := by
  have hnone (i : BankId) (hw : ∀ g, holdsOn s i g [h] = []) : uncounted s i [h] = bank s i := by
    simp [uncounted, hw]
  have hsome {g e : Nat} {i : BankId} (hw : h.waitsOn = some (g, e)) (hi : bankOfEpoch e s = some i) :
      uncounted s i [h] = (bank s i).changeHeld (· - 1) g := by
    simp only [uncounted, Bank.changeHeld]
    congr 1
    refine List.map_congr_left fun d _ => ?_
    by_cases hg : g = d.granule
    · simp [holdsOn, hw, hi, hg]
    · simp [holdsOn, hw, hg, Ne.symm hg]
  unfold uncountHold
  cases hw : h.waitsOn with
  | none => rw [hnone .a (by simp [holdsOn, hw]), hnone .b (by simp [holdsOn, hw])]; rfl
  | some x =>
    obtain ⟨g, e⟩ := x
    cases hi : bankOfEpoch e s with
    | none => simp only [hi]; rw [hnone .a (by simp [holdsOn, hw, hi]), hnone .b (by simp [holdsOn, hw, hi])]; rfl
    | some i =>
      simp only [hi]
      rw [← hsome hw hi]
      cases i
      · rw [hnone .b (by simp [holdsOn, hw, hi])]; rfl
      · rw [hnone .a (by simp [holdsOn, hw, hi])]; rfl

theorem bank_uncountHold (h : HoldEntry) (s : State) (i : BankId) : bank (uncountHold h s) i = uncounted s i [h] := by
  rw [uncountHold_eq]
  cases i <;> rfl

@[simp] theorem bankOfEpoch_uncountHold (h : HoldEntry) (s : State) (e : Nat) :
    bankOfEpoch e (uncountHold h s) = bankOfEpoch e s := by
  rw [uncountHold_eq]
  rfl

/-- One write after another leaves its count. -/
theorem uncounted_uncountHold (h : HoldEntry) (s : State) (i : BankId) (hs : List HoldEntry) :
    uncounted (uncountHold h s) i hs = uncounted s i (h :: hs) := by
  have hon (g : Nat) : holdsOn (uncountHold h s) i g hs = holdsOn s i g hs := by simp [holdsOn]
  have hlen (g : Nat) : (holdsOn s i g (h :: hs)).length = (holdsOn s i g [h]).length + (holdsOn s i g hs).length := by
    rw [← List.singleton_append, holdsOn, List.filter_append, List.length_append]
    rfl
  rw [uncounted, bank_uncountHold]
  simp only [uncounted, hon, hlen, List.map_map]
  congr 1
  exact List.map_congr_left fun d _ => by simp [Nat.sub_sub]

theorem uncounted_congr {s t : State} (h : t.ju = s.ju) (i : BankId) (hs : List HoldEntry) :
    uncounted t i hs = uncounted s i hs := by
  have hbank : bank t i = bank s i := bank_congr h i
  have hepoch (e : Nat) : bankOfEpoch e t = bankOfEpoch e s := findBank_congr _ h
  simp only [uncounted, holdsOn, hbank, hepoch]

theorem withBanks_uncountHold (a b : Bank) (h : HoldEntry) (s : State) :
    withBanks a b (uncountHold h s) = withBanks a b s := by
  rw [uncountHold_eq]
  rfl

theorem foldl_uncountHold (hs : List HoldEntry) (s : State) :
    hs.foldl (fun s h => uncountHold h s) s = withBanks (uncounted s .a hs) (uncounted s .b hs) s := by
  induction hs generalizing s with
  | nil => rw [uncounted_nil, uncounted_nil]; rfl
  | cons h hs ih =>
    rw [List.foldl_cons, ih, uncounted_uncountHold, uncounted_uncountHold, withBanks_uncountHold]

/-! ## The hand-over to the arbiter -/

/-- A tracker entry that is handed over (R78). -/
def issued (e : TrackerEntry) : TrackerEntry := { e with phase := .issued, held := false }

/-- The state with the tracker entries of the numbers handed to the arbiter in order. -/
def issuedAll (ns : List Nat) (s : State) : State :=
  { s with
    up := { s.up with tracker := s.up.tracker.map fun e => if e.number ∈ ns then issued e else e }
    dp := { s.dp with passThrough := s.dp.passThrough ++ ns.filterMap fun n => (findEntry n s).map passRequest } }

theorem issuedAll_nil (s : State) : issuedAll [] s = s := by
  simp [issuedAll]

theorem issueEntry_eq (n : Nat) (s : State) : issueEntry n s = issuedAll [n] s := by
  rcases issueEntry_cases n s with ⟨hn, h⟩ | ⟨e, he, h⟩ <;> rw [h]
  · have hmap : (s.up.tracker.map fun e => if e.number ∈ [n] then issued e else e) = s.up.tracker := by
      refine (List.map_congr_left fun e he => if_neg ?_).trans (List.map_id' _)
      simpa using List.find?_eq_none.1 hn e he
    simp only [issuedAll, hmap, hn, List.filterMap_cons, Option.map_none, List.filterMap_nil, List.append_nil]
  · simp [issuedAll, he, pushPass, changeEntry, issued]

theorem findEntry_issueEntry (m n : Nat) (s : State) :
    (findEntry m (issueEntry n s)).map passRequest = (findEntry m s).map passRequest := by
  have hfind : findEntry m (issueEntry n s) =
      (findEntry m s).map fun e => if e.number ∈ [n] then issued e else e := by
    rw [issueEntry_eq]
    simp only [findEntry, issuedAll, List.find?_map]
    congr 2
    funext e
    simp only [Function.comp_apply]
    split <;> rfl
  rw [hfind, Option.map_map]
  congr 1
  funext e
  simp only [Function.comp_apply]
  split <;> rfl

theorem issuedAll_issueEntry (n : Nat) (ns : List Nat) (s : State) : issuedAll ns (issueEntry n s) = issuedAll (n :: ns) s := by
  have htracker : ((s.up.tracker.map fun e => if e.number ∈ [n] then issued e else e).map fun e =>
      if e.number ∈ ns then issued e else e) = s.up.tracker.map fun e => if e.number ∈ n :: ns then issued e else e := by
    rw [List.map_map]
    refine List.map_congr_left fun e _ => ?_
    by_cases hn : e.number = n <;> by_cases hm : e.number ∈ ns <;> simp [hn, hm, issued]
  simp only [issuedAll, findEntry_issueEntry]
  rw [issueEntry_eq]
  simp only [issuedAll, htracker, List.append_assoc]
  congr 4
  cases h : (findEntry n s) <;> simp [h]

/-! ## Releases -/

/-- The state after the release of a queue's writes (steps 2 to 4 of R78). -/
def released (hs : List HoldEntry) (s : State) : State :=
  issuedAll (hs.map HoldEntry.entry) (withBanks (uncounted s .a hs) (uncounted s .b hs) s)

theorem withBanks_issueEntry (a b : Bank) (n : Nat) (s : State) :
    withBanks a b (issueEntry n s) = issueEntry n (withBanks a b s) := by
  rw [issueEntry_eq, issueEntry_eq]
  rfl

theorem foldl_releaseHold (hs : List HoldEntry) (s : State) : hs.foldl releaseHold s = released hs s := by
  induction hs generalizing s with
  | nil => rw [released, uncounted_nil, uncounted_nil]; exact (issuedAll_nil s).symm
  | cons h hs ih =>
    have hju (i : BankId) : uncounted (releaseHold s h) i hs = uncounted s i (h :: hs) :=
      (uncounted_congr (by simp [releaseHold]) i hs).trans (uncounted_uncountHold h s i hs)
    rw [List.foldl_cons, ih, released, hju, hju, releaseHold, withBanks_issueEntry, issuedAll_issueEntry,
      withBanks_uncountHold]
    rfl

theorem releaseScan_eq (s : State) :
    releaseScan s = released (scanHolds (granuleResolved s) [] s.ce.holdQueue).2
      { s with ce := { s.ce with holdQueue := (scanHolds (granuleResolved s) [] s.ce.holdQueue).1 } } :=
  foldl_releaseHold _ _

theorem releaseAll_eq (s : State) :
    releaseAll s = released s.ce.holdQueue { s with ce := { s.ce with holdQueue := [] } } := foldl_releaseHold _ _

/-- The released state written out, with the queue that stays. -/
theorem released_eq (hs kept : List HoldEntry) (s : State) :
    released hs { s with ce := { s.ce with holdQueue := kept } } =
      { s with
        ce := { s.ce with holdQueue := kept }
        up := { s.up with tracker := s.up.tracker.map fun e =>
          if e.number ∈ hs.map HoldEntry.entry then { e with phase := .issued, held := false } else e }
        dp := { s.dp with passThrough :=
          s.dp.passThrough ++ hs.filterMap fun h => (findEntry h.entry s).map passRequest }
        ju := { bankA := uncounted s .a hs, bankB := uncounted s .b hs } } := by
  simp only [released, issuedAll, List.filterMap_map]
  rfl

/-- Settles O35: the walk by `scanHolds_append`, the two releases by `foldl_releaseHold`. -/
theorem releaseScanRule : Obligations.ReleaseScanRule := by
  refine ⟨fun ready => rfl, fun ready hs h kept left hscan => ?_, fun s after =>
    ⟨fun h => granuleResolved_iff, fun hafter => ?_⟩⟩
  · rw [scanHolds_append, hscan]
    refine ⟨fun hr hk => if_pos (by simpa [hr] using hk), fun hn => if_neg ?_⟩
    rcases hn with hr | ⟨x, hx, he⟩
    · simp [hr]
    · simp only [Bool.and_eq_true, List.all_eq_true, decide_eq_true_eq, not_and]
      exact fun _ hall => hall x hx he
  · refine ⟨fun kept left hscan => ?_, ?_⟩
    · rw [releaseScan_eq, hscan, hafter, released_eq]
      rfl
    · rw [releaseAll_eq, hafter, released_eq]
      rfl

end Sys2Proof.Safety


/-! # The end of a copy (R87, R88) -/

namespace Sys2Proof.Safety

open Sys2Proof.Machine

/-! ## Parts that change nothing -/

theorem stopTimers_of_empty {g e : Nat} {s : State} (h : s.ce.holdQueue = []) : stopTimers g e s = s := by
  have hce : s.ce = { s.ce with holdQueue := [] } := by rw [← h]
  simp only [stopTimers, h, List.map_nil]
  rw [← hce]

theorem releaseScan_of_empty {s : State} (h : s.ce.holdQueue = []) : releaseScan s = s := by
  have hce : s.ce = { s.ce with holdQueue := [] } := by rw [← h]
  simp only [releaseScan, h, scanHolds, List.foldl_nil]
  rw [← hce]

theorem finishCopy_of_unresolved {s : State} {q : Seq} (h : ∀ c ∈ s.ce.copies, c.seq = q → c.resolved < 16) :
    finishCopy s q = s := by
  unfold finishCopy
  split
  · rfl
  · rename_i c hc
    have hseq : c.seq = q := by simpa using List.find?_some hc
    exact if_neg (Nat.not_le.2 (h c (List.mem_of_find?_eq_some hc) hseq))

theorem foldl_finishCopy_of_unresolved {s : State} {qs : List Seq}
    (h : ∀ c ∈ s.ce.copies, c.seq ∈ qs → c.resolved < 16) : qs.foldl finishCopy s = s := by
  induction qs with
  | nil => rfl
  | cons q qs ih =>
    rw [List.foldl_cons, finishCopy_of_unresolved fun c hc hq => h c hc (by simp [hq])]
    exact ih fun c hc hq => h c hc (by simp [hq])

theorem finishCopies_of_unresolved {s : State} (h : ∀ c ∈ s.ce.copies, c.resolved < 16) : finishCopies s = s :=
  foldl_finishCopy_of_unresolved fun c hc _ => h c hc

/-! ## A copy that ends -/

/-- The copy that a sequence names, when it names one. -/
theorem finishCopy_of_mem {s : State} {c : CopyOp} (hc : c ∈ s.ce.copies) (hu : ∀ x ∈ s.ce.copies, x.seq = c.seq → x = c)
    (hr : 16 ≤ c.resolved) : finishCopy s c.seq = completeCopy c s := by
  cases hf : s.ce.copies.find? fun x => decide (x.seq = c.seq) with
  | none => exact absurd (List.find?_eq_none.1 hf c hc) (by simp)
  | some x =>
    obtain rfl := hu x (List.mem_of_find?_eq_some hf) (by simpa using List.find?_some hf)
    simp only [finishCopy, hf]
    exact if_pos hr

/-- The entry of a copy that ends SKIPPED, with its count (R42). -/
def skipEntry (i : BankId) (c : CopyOp) (s : State) : State :=
  setBank i { bank s i with
    dirty := (bank s i).dirty.modify c.index fun d => { d with state := .skipped }
    skipped := (bank s i).skipped + 1 } s

/-- The end of a copy that is abandoned or had a read fail (R88). -/
theorem completeCopy_void {c : CopyOp} {s : State} {i : BankId} (hi : bankOfEpoch c.epoch s = some i)
    (hbad : c.abandoned = true ∨ 0 < c.failed) :
    completeCopy c s = closeIfResolved i (startCopies (removeCopy c.seq (handOverVoid c
      (releaseScan (stopTimers c.granule c.epoch (skipEntry i c s)))))) := by
  have hgood : (!c.abandoned && decide (c.failed = 0)) = false := by
    rcases hbad with h | h
    · simp [h]
    · simp [Nat.ne_of_gt h]
  simp only [completeCopy, hi, hgood]
  rfl

/-- The end of a copy all of whose reads returned their data (R88). -/
theorem completeCopy_data {c : CopyOp} {s : State} {i : BankId} (hi : bankOfEpoch c.epoch s = some i)
    (ha : c.abandoned = false) (hf : c.failed = 0) :
    completeCopy c s = closeIfResolved i (startCopies (removeCopy c.seq (handOverData c
      (releaseScan (stopTimers c.granule c.epoch (report { event := .copies } 1
        (setBank i { bank s i with
          dirty := (bank s i).dirty.modify c.index fun d => { d with state := .copied }
          copied := (bank s i).copied + 1 } s))))))) := by
  simp only [completeCopy, hi, ha, hf]
  rfl

/-- Nothing drains and nothing is held: the bridge after a damage. -/
structure Quiet (s : State) : Prop where
  noDraining : ∀ i, (bank s i).state ≠ .draining
  noHold : s.ce.holdQueue = []

theorem Quiet.of_frame {s t : State} (h : Quiet s) (hj : t.ju = s.ju) (hq : t.ce.holdQueue = s.ce.holdQueue) : Quiet t :=
  ⟨fun i => by rw [bank_congr hj]; exact h.noDraining i, hq.trans h.noHold⟩

theorem Quiet.skipEntry {s : State} (h : Quiet s) (i : BankId) (c : CopyOp) : Quiet (skipEntry i c s) := by
  refine ⟨fun j => ?_, by simpa [Safety.skipEntry] using h.noHold⟩
  rcases BankId.eq_or_other i j with rfl | rfl
  · simpa [Safety.skipEntry] using h.noDraining j
  · simpa [Safety.skipEntry] using h.noDraining i.other

/-- The end of a copy after a damage: its entry SKIPPED, its VOID record, and no more. -/
def voidEnd (i : BankId) (c : CopyOp) (s : State) : State := removeCopy c.seq (handOverVoid c (skipEntry i c s))

theorem Quiet.voidEnd {s : State} (h : Quiet s) (i : BankId) (c : CopyOp) : Quiet (voidEnd i c s) :=
  (h.skipEntry i c).of_frame (by simp [Safety.voidEnd]) (by simp [Safety.voidEnd])

theorem completeCopy_quiet {c : CopyOp} {s : State} {i : BankId} (hs : Quiet s) (hi : bankOfEpoch c.epoch s = some i)
    (hbad : c.abandoned = true ∨ 0 < c.failed) : completeCopy c s = voidEnd i c s := by
  have hskip := (hs.skipEntry i c).noHold
  have hend := hs.voidEnd i c
  rw [completeCopy_void hi hbad, stopTimers_of_empty hskip, releaseScan_of_empty hskip]
  show closeIfResolved i (startCopies (voidEnd i c s)) = voidEnd i c s
  rw [startCopies_of_noDraining hend.noDraining, closeIfResolved_of_not (.inl (hend.noDraining i))]

theorem voidEnd_copies {s : State} {c : CopyOp} {xs ys : List CopyOp} (i : BankId)
    (hn : (s.ce.copies.map CopyOp.seq).Nodup) (hc : s.ce.copies = xs ++ c :: ys) :
    (voidEnd i c s).ce.copies = xs ++ ys := by
  rw [hc, List.map_append, List.map_cons, List.nodup_append, List.nodup_cons] at hn
  obtain ⟨-, ⟨hcys, -⟩, hdisj⟩ := hn
  have hxc : ∀ x ∈ xs, x.seq ≠ c.seq := fun x hx => hdisj _ (List.mem_map_of_mem hx) _ (by simp)
  have hyc : ∀ y ∈ ys, y.seq ≠ c.seq := fun y hy he => hcys (he ▸ List.mem_map_of_mem hy)
  have hkeep {l : List CopyOp} (hl : ∀ x ∈ l, x.seq ≠ c.seq) : (l.filter fun x => !decide (x.seq = c.seq)) = l :=
    List.filter_eq_self.2 fun x hx => by simpa using hl x hx
  simp [voidEnd, skipEntry, hc, hkeep hxc, hkeep hyc]

/-- After a damage the copies with no read left end one after another: the first of them, then the others. -/
theorem finishCopies_voidEnd {s : State} {i : BankId} {c : CopyOp} {xs ys : List CopyOp} (hs : Quiet s)
    (hn : (s.ce.copies.map CopyOp.seq).Nodup) (hc : s.ce.copies = xs ++ c :: ys) (hxs : ∀ x ∈ xs, x.resolved < 16)
    (hr : 16 ≤ c.resolved) (hi : bankOfEpoch c.epoch s = some i) (hbad : c.abandoned = true ∨ 0 < c.failed) :
    finishCopies s = finishCopies (voidEnd i c s) := by
  have hn' := hn
  rw [hc, List.map_append, List.nodup_append] at hn'
  obtain ⟨-, -, hdisj⟩ := hn'
  have hxy : ∀ x ∈ xs, ∀ y ∈ ys, y.seq ≠ x.seq := fun x hx y hy he =>
    hdisj _ (List.mem_map_of_mem hx) _ (List.mem_map_of_mem (List.mem_cons_of_mem _ hy)) he.symm
  have hmem : c ∈ s.ce.copies := by simp [hc]
  have hunique : ∀ x ∈ s.ce.copies, x.seq = c.seq → x = c := fun x hx he => List.inj_on_of_nodup_map hn hx hmem he
  have hcopies := voidEnd_copies i hn hc
  have hfirst : (xs.map CopyOp.seq).foldl finishCopy s = s := by
    refine foldl_finishCopy_of_unresolved fun x hx hq => ?_
    obtain ⟨x', hx', he⟩ := List.mem_map.1 hq
    have hsame : x' = x := List.inj_on_of_nodup_map hn (by simp [hc, hx']) hx he
    exact hsame ▸ hxs x' hx'
  have hagain : (xs.map CopyOp.seq).foldl finishCopy (voidEnd i c s) = voidEnd i c s := by
    refine foldl_finishCopy_of_unresolved fun x hx hq => ?_
    obtain ⟨x', hx', he⟩ := List.mem_map.1 hq
    rw [hcopies] at hx
    rcases List.mem_append.1 hx with hx | hx
    · exact hxs x hx
    · exact absurd he.symm (hxy x' hx' x hx)
  calc finishCopies s
      = (ys.map CopyOp.seq).foldl finishCopy (finishCopy ((xs.map CopyOp.seq).foldl finishCopy s) c.seq) := by
        rw [finishCopies, hc, List.map_append, List.map_cons, List.foldl_append, List.foldl_cons]
    _ = (ys.map CopyOp.seq).foldl finishCopy (voidEnd i c s) := by
        rw [hfirst, finishCopy_of_mem hmem hunique hr, completeCopy_quiet hs hi hbad]
    _ = finishCopies (voidEnd i c s) := by
        rw [finishCopies, hcopies, List.map_append, List.foldl_append, hagain]

/-! ## A copy read taken -/

theorem stopFor_eq {g e : Nat} {stop : HoldEntry → HoldEntry}
    (h1 : ∀ h, h.waitsOn = some (g, e) → stop h = { h with reason := .own g e .stopped })
    (h2 : ∀ h, h.waitsOn ≠ some (g, e) → stop h = h) : HoldEntry.stopFor g e = stop := by
  funext h
  unfold HoldEntry.stopFor
  split
  · rename_i hw; exact (h1 h hw).symm
  · rename_i hw; exact (h2 h hw).symm

/-- One copy alone bears the sequence, so it alone is counted. -/
theorem resolveRead_eq {s : State} {q : Seq} {k : Nat} {data : Option (List Byte)} {c x : CopyOp}
    (hu : ∀ y ∈ s.ce.copies, y.seq = q → y = c) (hx : c.resolve k data = x) :
    resolveRead q k data s =
      { s with ce := { s.ce with copies := s.ce.copies.map fun y => if y.seq = q then x else y } } := by
  have hmap : (s.ce.copies.map fun y => if y.seq = q then y.resolve k data else y) =
      s.ce.copies.map fun y => if y.seq = q then x else y := by
    refine List.map_congr_left fun y hy => ?_
    split
    · rename_i he; rw [hu y hy he, hx]
    · rfl
  rw [resolveRead, hmap]

theorem copyGranule_eq {s : State} {c : CopyOp} (hc : c ∈ s.ce.copies) (hu : ∀ x ∈ s.ce.copies, x.seq = c.seq → x = c) :
    copyGranule c.seq s = some c.granule := by
  unfold copyGranule
  cases hf : s.ce.copies.find? fun x => decide (x.seq = c.seq) with
  | none => exact absurd (List.find?_eq_none.1 hf c hc) (by simp)
  | some x =>
    obtain rfl := hu x (List.mem_of_find?_eq_some hf) (by simpa using List.find?_some hf)
    rfl

theorem takeResponse_outstanding {r : Response} {s : State} {t : Tag} {limit elapsed : Nat} (ht : findTag r.tag s = some t)
    (ho : t.state = .outstanding limit elapsed) :
    takeResponse .okay r s = requestOkay t r (dropTag r.tag s) ∧
      takeResponse .error r s = requestFailed t .downstreamError .copyError (dropTag r.tag s) := by
  simp [takeResponse, ht, ho, (findTag_some ht).2]

/-- A failed copy read reaches the one cut bank as a damage, with its fault (R92). -/
theorem copyReadFailed_eq {s : State} {k : Nat} {reason : DamageReason} {address : Nat} {c failed : CopyOp} {i : BankId}
    (hinv : JournalInv s) (hc : c ∈ s.ce.copies) (hu : ∀ x ∈ s.ce.copies, x.seq = c.seq → x = c)
    (hi : (bank s i).state.isCut = true) (hfailed : failed = { c with resolved := c.resolved + 1, failed := c.failed + 1 }) :
    copyReadFailed c.seq k reason address s =
      finishCopies (reportFault .copyFailed { memory := some address, granule := some c.granule }
        (damageBank i reason
          { s with ce := { s.ce with copies := s.ce.copies.map fun x => if x.seq = c.seq then failed else x } })) := by
  have hcut : cutBank (resolveRead c.seq k none s) = some i :=
    (findBank_congr _ (by simp)).trans (hinv.cutBank_eq hi)
  simp only [copyReadFailed, failWork, hcut, copyGranule_eq hc hu]
  rw [resolveRead_eq hu (x := failed) (by rw [hfailed]; rfl)]

/-- Settles O43: the read is counted at its one copy, the sixteenth ends it (`completeCopy_data`, `completeCopy_void`), a
failure damages the one cut bank, and the ends after a damage follow by `finishCopies_voidEnd`. -/
theorem copyReadTaken : Obligations.CopyReadTaken := by
  rintro s t r q k limit elapsed c i read failed hr hinv ht ho hsrc hc rfl hu hepoch hcut hread hfailed
  have htag : t.number = r.tag := (findTag_some ht).2
  refine ⟨?_, ?_, fun u g e stop h1 h2 => ?_, fun u => rfl, fun u j => ⟨fun hs hd => ?_, fun hn => ?_⟩,
    fun u => ⟨finishCopies_of_unresolved, ?_⟩⟩
  · rintro u hu'
    have hfinish : takeResponse .okay r s = finishCopy u c.seq := by
      rw [(takeResponse_outstanding ht ho).1, requestOkay, hsrc]
      show finishCopy (resolveRead c.seq k (some r.data) (dropTag r.tag s)) c.seq = _
      rw [resolveRead_eq (s := dropTag r.tag s) hu (x := read) (by rw [hread]; rfl), hu']
      rfl
    have hexec : exec (.responseOkay r) s = .next (raiseRingLow s (finishCopy u c.seq)) := by
      rw [← hfinish]
      exact event_high hr
    have hseq : read.seq = c.seq := by rw [hread]
    have hmem : read ∈ u.ce.copies := by
      rw [hu']
      exact List.mem_map.2 ⟨c, hc, if_pos rfl⟩
    have hone : ∀ x ∈ u.ce.copies, x.seq = read.seq → x = read := by
      rw [hu', hseq]
      intro x hx he
      obtain ⟨y, hy, rfl⟩ := List.mem_map.1 hx
      by_cases hy : y.seq = c.seq
      · exact if_pos hy
      · rw [if_neg hy] at he
        exact absurd he hy
    have hbank : bankOfEpoch read.epoch u = some i := by
      have hs := hinv.bankOfEpoch_iff.2 hepoch
      rw [hu', hread]
      exact hs
    have hsixteen (h16 : c.resolved + 1 = 16) : finishCopy u c.seq = completeCopy read u := by
      rw [← hseq]
      exact finishCopy_of_mem hmem hone (by rw [hread]; exact h16.ge)
    have hu_bank : bank u i = bank s i := bank_congr (by rw [hu']) i
    refine ⟨fun hlt => ?_, fun h16 ha hf => ?_, fun h16 hbad => ?_⟩
    · rw [hexec, finishCopy_of_unresolved fun x hx he => ?_, raiseRingLow_of_rw (by rw [hu'])]
      rw [hone x hx (he.trans hseq.symm), hread]
      exact hlt
    · rw [hexec, hsixteen h16, completeCopy_data hbank (by rw [hread]; exact ha) (by rw [hread]; exact hf), hu_bank, hread]
    · rw [hexec, hsixteen h16, completeCopy_void hbank (by rw [hread]; exact hbad), skipEntry, hu_bank, hread]
  · rintro counted fault hcounted hfault
    refine ⟨?_, fun hle => ?_⟩
    · have hfail : takeResponse .error r s = copyReadFailed c.seq k .copyError t.address (dropTag r.tag s) := by
        rw [(takeResponse_outstanding ht ho).2, requestFailed, hsrc]
      have hdrop : JournalInv (dropTag r.tag s) := hinv.of_frame rfl rfl rfl
      have hstep : exec (.responseError r) s = .next (raiseRingLow s (takeResponse .error r s)) := event_high hr
      rw [hstep, hfail, copyReadFailed_eq hdrop hc hu hcut hfailed, hfault, hcounted]
      rfl
    · have hdue : t.due = true := by simpa [Tag.due, ho] using hle
      have hfail : expireResponse r.tag s = copyReadFailed c.seq k .copyTimeout t.address
          (report { event := .dsTimeouts, domain := t.domain, window := t.window, direction := some .read } 1
            (expireTag r.tag s)) := by
        simp only [expireResponse, ht, hdue, if_true, requestFailed, hsrc]
        rfl
      have hexpire (n : Report) : JournalInv (report n 1 (expireTag r.tag s)) :=
        hinv.of_frame (by simp) (by simp) (by simp)
      have hstep : exec (.responseTimerExpiry r.tag) s = .next (raiseRingLow s (expireResponse r.tag s)) := event_high hr
      rw [hstep, hfail, copyReadFailed_eq (i := i) (hexpire _) (by simpa using hc) (by simpa using hu) ?_ hfailed, hfault,
        hcounted]
      · rfl
      · rw [bank_congr (t := s) (by simp)]
        exact hcut
  · rw [stopTimers, stopFor_eq h1 h2]
  · refine closeIfResolved_of_resolved hs fun d hmem => ?_
    rcases hd d hmem with h | h <;> rw [h] <;> rfl
  · refine closeIfResolved_of_not (hn.imp_right ?_)
    rintro ⟨d, hmem, h⟩
    exact ⟨d, hmem, EntryState.isWaiting_iff.2 h⟩
  · rintro j x xs ys hju hd hq hn hcopies hxs hx he hbad
    exact finishCopies_voidEnd ⟨hd, hq⟩ hn hcopies hxs hx (hju.bankOfEpoch_iff.2 he) hbad

end Sys2Proof.Safety


/-! # The request of the END record (R107, R108) -/

namespace Sys2Proof.Safety

open Sys2Proof.Machine

/-- The request is no read of a copy. -/
def Request.NotCopyRead (x : Request) : Prop := ∀ q k, x.source ≠ .copyRead q k

/-- What the hand-over of a record may do: slots change, and writes join the background queue. -/
structure HandsOver (s t : State) : Prop where
  rw : t.rw = { s.rw with slots := t.rw.slots }
  dp : ∃ bs, (∀ x ∈ bs, Request.NotCopyRead x) ∧ t.dp = { s.dp with background := s.dp.background ++ bs }

theorem HandsOver.refl (s : State) : HandsOver s s := ⟨rfl, [], by simp, by simp⟩

theorem handsOver_pushBackground {rs : List Request} (h : ∀ x ∈ rs, Request.NotCopyRead x) (q : Seq) (w : RecordWrite)
    (s : State) : HandsOver s (pushBackground rs (startRecord q w s)) := ⟨rfl, rs, h, rfl⟩

theorem headerRequest_notCopyRead (s : State) (x : Slot) (w : RecordWrite) : Request.NotCopyRead (headerRequest s x w) := by
  intro q k
  unfold headerRequest recordRequest
  cases w.kind <;> simp

theorem handOverVoid_handsOver (c : CopyOp) (s : State) : HandsOver s (handOverVoid c s) := by
  unfold handOverVoid
  split
  · exact .refl s
  · exact handsOver_pushBackground (by simpa using headerRequest_notCopyRead _ _ _) _ _ s

theorem composeEnd_handsOver (b : Bank) (x : Slot) (s : State) : HandsOver s (composeEnd b x s) := by
  unfold composeEnd
  refine handsOver_pushBackground (fun y hy => ?_) _ _ s
  split at hy
  · obtain rfl := List.mem_singleton.1 hy
    exact headerRequest_notCopyRead _ _ _
  · obtain ⟨k, -, rfl⟩ := List.mem_map.1 hy
    simp [Request.NotCopyRead, recordRequest]

theorem writeEndIfReady_handsOver (s : State) : HandsOver s (writeEndIfReady s) := by
  rcases writeEndIfReady_cases s with h | ⟨_, i, x, -, -, -, -, -, -, h⟩ <;> rw [h]
  · exact .refl s
  · exact composeEnd_handsOver _ x s

/-- The account of the END record takes its epoch once (R107). -/
theorem requestEnd_eq (e : Option Nat) (s : State) :
    requestEnd e s =
      if 1 ≤ freeSlots s.rw then
        reserveEnd { s with rw := { s.rw with account := { s.rw.account with epoch := s.rw.account.epoch.or e } } }
      else { s with rw := { s.rw with
        account := { s.rw.account with epoch := s.rw.account.epoch.or e }, pendingEnd := e } } := by
  have haccount : (if s.rw.account.epoch.isNone then
      { s with rw := { s.rw with account := { s.rw.account with epoch := e } } } else s) =
      { s with rw := { s.rw with account := { s.rw.account with epoch := s.rw.account.epoch.or e } } } := by
    cases h : s.rw.account.epoch with
    | none => rfl
    | some x =>
      have hself : s.rw.account = { s.rw.account with epoch := some x } := by rw [← h]
      simp only [Option.isNone_some, Bool.false_eq_true, if_false, Option.some_or]
      rw [← hself]
  unfold requestEnd
  dsimp only
  rw [haccount]
  rfl

theorem requestEnd_epoch (e : Option Nat) (s : State) :
    (requestEnd e s).rw.account.epoch = s.rw.account.epoch.or e := by
  rw [requestEnd_eq]
  split
  · rw [reserveEnd, (writeEndIfReady_handsOver _).rw]
    rfl
  · rfl

/-- Without a free slot the request waits as the Pending End Marker. -/
theorem requestEnd_waits (e : Option Nat) {s : State} (h : freeSlots s.rw = 0) :
    (requestEnd e s).rw.pendingEnd = e ∧ (requestEnd e s).rw.reserve = s.rw.reserve := by
  rw [requestEnd_eq, if_neg (by omega)]
  exact ⟨rfl, rfl⟩

theorem requestEnd_reserves (e : Option Nat) {s : State} (h : 1 ≤ freeSlots s.rw) :
    (requestEnd e s).rw.pendingEnd = s.rw.pendingEnd ∧ (requestEnd e s).rw.reserve = s.rw.reserve + 1 ∧
      (requestEnd e s).rw.account.endSeq = some s.rw.reserve := by
  rw [requestEnd_eq, if_pos h, reserveEnd, (writeEndIfReady_handsOver _).rw]
  exact ⟨rfl, rfl, rfl⟩

theorem requestEnd_dp (e : Option Nat) (s : State) :
    ∃ bs, (∀ x ∈ bs, Request.NotCopyRead x) ∧ (requestEnd e s).dp = { s.dp with background := s.dp.background ++ bs } := by
  rw [requestEnd_eq]
  split
  · exact (writeEndIfReady_handsOver _).dp
  · exact ⟨[], by simp, by simp⟩

end Sys2Proof.Safety

/-! # The copies that end after a damage (R88, R90) -/

namespace Sys2Proof.Safety

open Sys2Proof.Machine

/-- What the end of abandoned copies may do to a bank: entries become SKIPPED and are counted. -/
structure EndsSkipped (b c : Bank) : Prop where
  same : c = { b with dirty := c.dirty, skipped := c.skipped }
  entries : ∀ x ∈ c.dirty, x ∈ b.dirty ∨ x.state = .skipped

theorem EndsSkipped.refl (b : Bank) : EndsSkipped b b := ⟨rfl, fun _ => .inl⟩

theorem EndsSkipped.trans {b c d : Bank} (h : EndsSkipped b c) (k : EndsSkipped c d) : EndsSkipped b d :=
  ⟨by rw [k.same, h.same], fun x hx => (k.entries x hx).elim (h.entries x) .inr⟩

/-- What the end of abandoned copies may do: entries become SKIPPED, copies leave, VOID records are handed over. -/
structure EndsVoid (u v : State) : Prop where
  banks : ∀ j, EndsSkipped (bank u j) (bank v j)
  ce : v.ce = { u.ce with copies := v.ce.copies }
  copies : ∀ c ∈ v.ce.copies, c ∈ u.ce.copies
  rw : v.rw = { u.rw with slots := v.rw.slots }
  dp : v.dp = { u.dp with background := v.dp.background }
  requests : ∀ x ∈ v.dp.background, x ∈ u.dp.background ∨ Request.NotCopyRead x
  up : v.up = u.up
  au : v.au = u.au
  tm : v.tm = u.tm

theorem EndsVoid.refl (u : State) : EndsVoid u u :=
  ⟨fun _ => .refl _, rfl, fun _ => id, rfl, rfl, fun _ => .inl, rfl, rfl, rfl⟩

theorem EndsVoid.trans {u v w : State} (h : EndsVoid u v) (k : EndsVoid v w) : EndsVoid u w where
  banks j := (h.banks j).trans (k.banks j)
  ce := by rw [k.ce, h.ce]
  copies c hc := h.copies c (k.copies c hc)
  rw := by rw [k.rw, h.rw]
  dp := by rw [k.dp, h.dp]
  requests x hx := (k.requests x hx).elim (h.requests x) .inr
  up := k.up.trans h.up
  au := k.au.trans h.au
  tm := k.tm.trans h.tm

theorem removeCopy_endsVoid (q : Seq) (s : State) : EndsVoid s (removeCopy q s) :=
  ⟨fun _ => .refl _, rfl, fun _ hc => List.mem_of_mem_filter hc, rfl, rfl, fun _ => .inl, rfl, rfl, rfl⟩

theorem skipEntry_endsSkipped (i : BankId) (c : CopyOp) (s : State) (j : BankId) :
    EndsSkipped (bank s j) (bank (skipEntry i c s) j) := by
  rcases BankId.eq_or_other i j with rfl | rfl
  · rw [skipEntry, bank_setBank]
    refine ⟨rfl, fun x hx => ?_⟩
    rcases mem_modify hx with hx | ⟨y, -, rfl⟩
    exacts [.inl hx, .inr rfl]
  · rw [skipEntry, bank_other_setBank]
    exact .refl _

theorem voidEnd_endsVoid (i : BankId) (c : CopyOp) (s : State) : EndsVoid s (voidEnd i c s) := by
  have hover := handOverVoid_handsOver c (skipEntry i c s)
  obtain ⟨bs, hbs, hdp⟩ := hover.dp
  have hback : (voidEnd i c s).dp = (handOverVoid c (skipEntry i c s)).dp := by simp [voidEnd]
  have hring : (voidEnd i c s).rw = (handOverVoid c (skipEntry i c s)).rw := by simp [voidEnd]
  have hskip : (skipEntry i c s).dp = s.dp ∧ (skipEntry i c s).rw = s.rw := by simp [skipEntry]
  constructor
  case banks =>
    intro j
    rw [bank_congr (s := voidEnd i c s) (t := skipEntry i c s) (by simp [voidEnd])]
    exact skipEntry_endsSkipped i c s j
  case ce => simp [voidEnd, skipEntry, removeCopy]
  case copies =>
    intro x hx
    simp only [voidEnd, skipEntry, removeCopy] at hx
    simpa using List.mem_of_mem_filter hx
  case rw => rw [hring, hover.rw, hskip.2]
  case dp => rw [hback, hdp, hskip.1]
  case requests =>
    intro x hx
    rw [hback, hdp, hskip.1] at hx
    exact (List.mem_append.1 hx).imp_right (hbs x)
  all_goals simp [voidEnd, skipEntry]

/-- No held write, no draining bank, and every copy in flight abandoned: the bridge after a damage. -/
structure GivenUp (s : State) : Prop where
  quiet : Quiet s
  abandoned : ∀ c ∈ s.ce.copies, c.abandoned = true

theorem completeCopy_endsVoid {c : CopyOp} {s : State} (h : GivenUp s) (hc : c ∈ s.ce.copies) :
    EndsVoid s (completeCopy c s) ∧ Quiet (completeCopy c s) := by
  cases hi : bankOfEpoch c.epoch s with
  | none =>
    have hremove : completeCopy c s = removeCopy c.seq s := by simp [completeCopy, hi]
    rw [hremove]
    exact ⟨removeCopy_endsVoid _ s, h.quiet.of_frame rfl rfl⟩
  | some i =>
    rw [completeCopy_quiet h.quiet hi (.inl (h.abandoned c hc))]
    exact ⟨voidEnd_endsVoid i c s, h.quiet.voidEnd i c⟩

theorem finishCopies_endsVoid {s : State} (h : GivenUp s) : EndsVoid s (finishCopies s) := by
  refine (finishCopies_induction (P := fun t => EndsVoid s t ∧ GivenUp t) ⟨.refl s, h⟩ fun t c ⟨ht, hg⟩ hc _ => ?_).1
  obtain ⟨hends, hquiet⟩ := completeCopy_endsVoid hg hc
  exact ⟨ht.trans hends, hquiet, fun x hx => hg.abandoned x (hends.copies x hx)⟩

/-! ## Every ended copy by its entry -/

/-- A copy of the entry at an index has no read left. -/
def endedAt (copies : List CopyOp) (n : Nat) : Bool :=
  copies.any fun c => decide (c.index = n) && decide (16 ≤ c.resolved)

/-- A list with the entries SKIPPED whose copy has no read left. -/
def endedEntries (copies : List CopyOp) (l : List DirtyEntry) : List DirtyEntry :=
  l.mapIdx fun n d => if endedAt copies n then { d with state := .skipped } else d

theorem endedEntries_of_unresolved {copies : List CopyOp} (h : ∀ c ∈ copies, c.resolved < 16) (l : List DirtyEntry) :
    endedEntries copies l = l := by
  have hn (n : Nat) : endedAt copies n = false := by simpa [endedAt] using fun c hc _ => h c hc
  apply List.ext_getElem <;> simp [endedEntries, hn]

/-- The first ended copy, and then the others. -/
theorem endedEntries_modify {xs ys : List CopyOp} {c : CopyOp} (hr : 16 ≤ c.resolved) (l : List DirtyEntry) :
    endedEntries (xs ++ ys) (l.modify c.index fun d => { d with state := .skipped }) = endedEntries (xs ++ c :: ys) l := by
  apply List.ext_getElem
  · simp [endedEntries]
  · intro n h1 h2
    simp only [endedEntries, List.getElem_mapIdx, List.getElem_modify, endedAt, List.any_append, List.any_cons]
    by_cases hn : c.index = n <;> simp [hn, hr]

/-- What the ends after a damage leave when the copies are of one bank. -/
structure EndsAll (i : BankId) (u v : State) : Prop where
  copies : v.ce.copies = u.ce.copies.filter fun c => c.resolved < 16
  entries : (bank v i).dirty = endedEntries u.ce.copies (bank u i).dirty
  other : bank v i.other = bank u i.other

theorem bankOfEpoch_voidEnd (i : BankId) (c : CopyOp) (s : State) (e : Nat) :
    bankOfEpoch e (voidEnd i c s) = bankOfEpoch e s := by
  have hju : (voidEnd i c s).ju = (skipEntry i c s).ju := by simp [voidEnd]
  rw [bankOfEpoch, findBank_congr _ hju]
  cases i <;> rfl

theorem finishCopies_endsAll {i : BankId} {u : State} (hq : Quiet u) (ha : ∀ c ∈ u.ce.copies, c.abandoned = true)
    (hn : (u.ce.copies.map CopyOp.seq).Nodup) (hi : ∀ c ∈ u.ce.copies, bankOfEpoch c.epoch u = some i) :
    EndsAll i u (finishCopies u) := by
  by_cases hnone : ∀ c ∈ u.ce.copies, c.resolved < 16
  · rw [finishCopies_of_unresolved hnone]
    exact ⟨(List.filter_eq_self.2 fun c hc => by simpa using hnone c hc).symm,
      (endedEntries_of_unresolved hnone _).symm, rfl⟩
  · push Not at hnone
    obtain ⟨x, hx, hx16⟩ := hnone
    obtain ⟨c, hfind⟩ : ∃ c, u.ce.copies.find? (fun c => decide (16 ≤ c.resolved)) = some c :=
      Option.isSome_iff_exists.1 (List.find?_isSome.2 ⟨x, hx, by simpa using hx16⟩)
    obtain ⟨hc16, xs, ys, hcopies, hxs⟩ := List.find?_eq_some_iff_append.1 hfind
    have hr : 16 ≤ c.resolved := by simpa using hc16
    have hmem : c ∈ u.ce.copies := by simp [hcopies]
    have hleft := voidEnd_copies i hn hcopies
    have hends := voidEnd_endsVoid i c u
    have hn' : ((voidEnd i c u).ce.copies.map CopyOp.seq).Nodup := by
      refine hn.sublist (List.Sublist.map _ ?_)
      rw [hleft, hcopies]
      exact (List.sublist_cons_self c ys).append_left xs
    have ih := finishCopies_endsAll (i := i) (hq.voidEnd i c) (fun y hy => ha y (hends.copies y hy)) hn' fun y hy => by
      rw [bankOfEpoch_voidEnd]
      exact hi y (hends.copies y hy)
    have hbank (j : BankId) : bank (voidEnd i c u) j = bank (skipEntry i c u) j := bank_congr (by simp [voidEnd]) j
    rw [finishCopies_voidEnd hq hn hcopies (fun y hy => by simpa using hxs y hy) hr (hi c hmem) (.inl (ha c hmem))]
    refine ⟨?_, ?_, ?_⟩
    · rw [ih.copies, hleft, hcopies]
      simp [Nat.not_lt.2 hr]
    · rw [ih.entries, hleft, hbank, skipEntry, bank_setBank, hcopies]
      exact endedEntries_modify hr _
    · rw [ih.other, hbank, skipEntry, bank_other_setBank]
termination_by u.ce.copies.length
decreasing_by
  rw [voidEnd_copies i hn (by assumption)]
  simp [*]

end Sys2Proof.Safety


/-! # Damage and ABANDON (R31, R33, R60, R65, R90) -/

namespace Sys2Proof.Safety

open Sys2Proof.Machine

/-! ## The reason -/

/-- The alert causes after a damage: EPOCH_DAMAGED at the first of an epoch, unless it is ABANDON (R65). -/
def damageAlert (b : Bank) (reason : DamageReason) (au : AlertUnit) : AlertUnit :=
  { au with pending := if b.damage = none ∧ reason ≠ .abandon then au.pending ||| 0x02#8 else au.pending }

theorem setReason_eq (i : BankId) (reason : DamageReason) (s : State) :
    setReason i reason s = setBank i { bank s i with damage := (bank s i).damage.or (some reason) }
      { s with au := damageAlert (bank s i) reason s.au } := by
  unfold setReason
  cases hd : (bank s i).damage with
  | some d =>
    have hself : ({ bank s i with damage := some d } : Bank) = bank s i := by rw [← hd]
    simp only [Option.some_or, damageAlert, hd, hself, reduceCtorEq, false_and, if_false]
    exact (setBank_bank i s).symm
  | none =>
    by_cases hr : reason = .abandon
    · simp [damageAlert, hd, hr]
    · simp only [damageAlert, hd, hr, ne_eq, not_false_iff, and_self, if_true]
      cases i <;> rfl

theorem clearShareIfIdle_eq (s : State) :
    clearShareIfIdle s =
      { s with dp := { s.dp with shareCounter := if s.dp.background = [] then 0 else s.dp.shareCounter } } := by
  unfold clearShareIfIdle
  cases h : s.dp.background <;> simp

/-! ## The bridge after a damage of a bank that copies -/

/-- No entry PENDING, the bank CLOSING with its reason. -/
def damagedBank (b : Bank) (reason : DamageReason) : Bank := { b.skipPending with damage := b.damage.or (some reason) }

/-- The request is a read of none of the copies. -/
def readsNone (copies : List CopyOp) (x : Request) : Bool := copies.all fun c => !x.isReadOf c.seq

/-- A copy whose waiting reads resolve at once (R90). -/
def abandonedCopy (dp : DownstreamPort) (c : CopyOp) : CopyOp :=
  { c with
    abandoned := true
    resolved := c.resolved + ((dp.urgent ++ dp.background).filter (Request.isReadOf c.seq)).length }

/-- The damaged bank once its held writes have left. -/
def givenUpBank (i : BankId) (reason : DamageReason) (s : State) : Bank :=
  { damagedBank (bank s i) reason with dirty := (damagedBank (bank s i) reason).dirty.map fun d =>
      { d with held := d.held - (holdsOn s i d.granule s.ce.holdQueue).length } }

/-- The bridge before the END request and the end of the copies (R31, R90). -/
def givenUp (i : BankId) (reason : DamageReason) (s : State) : State :=
  setBank i (givenUpBank i reason s)
    (setBank i.other (uncounted s i.other s.ce.holdQueue)
      { s with
        ce := { s.ce with holdQueue := [], copies := s.ce.copies.map (abandonedCopy s.dp) }
        up := (issuedAll (s.ce.holdQueue.map HoldEntry.entry) s).up
        au := damageAlert (bank s i) reason s.au
        dp := { s.dp with
          urgent := s.dp.urgent.filter (readsNone s.ce.copies)
          passThrough := s.dp.passThrough ++ s.ce.holdQueue.filterMap fun h => (findEntry h.entry s).map passRequest
          background := s.dp.background.filter (readsNone s.ce.copies)
          shareCounter := if s.dp.background.filter (readsNone s.ce.copies) = [] then 0 else s.dp.shareCounter } })

theorem abandonCopies_eq (s : State) :
    abandonCopies s = { s with
      ce := { s.ce with copies := s.ce.copies.map (abandonedCopy s.dp) }
      dp := { s.dp with
        urgent := s.dp.urgent.filter (readsNone s.ce.copies)
        background := s.dp.background.filter (readsNone s.ce.copies)
        shareCounter := if s.dp.background.filter (readsNone s.ce.copies) = [] then 0 else s.dp.shareCounter } } := by
  have hcopies : (fun c : CopyOp => { c with abandoned := true, resolved := c.resolved + waitingReads c.seq s }) =
      abandonedCopy s.dp := by
    funext c
    simp [abandonedCopy, waitingReads]
  rw [abandonCopies, withdrawReads, clearShareIfIdle_eq, hcopies]
  rfl

theorem giveUpCopying_setReason (i : BankId) (reason : DamageReason) (s : State) :
    giveUpCopying i (setReason i reason s) = finishCopies (requestEnd (bank s i).epoch (givenUp i reason s)) := by
  have hbank : (bank (setReason i reason s) i).skipPending = damagedBank (bank s i) reason := by
    rw [setReason_eq, bank_setBank]
    rfl
  generalize ht : setBank i (damagedBank (bank s i) reason) { s with au := damageAlert (bank s i) reason s.au } = t
  have hset : setBank i (bank (setReason i reason s) i).skipPending (setReason i reason s) = t := by
    rw [hbank, setReason_eq, setBank_setBank, ht]
  have hepochs (e : Nat) : bankOfEpoch e t = bankOfEpoch e s := by
    rw [← ht]
    exact bankOfEpoch_setBank (b := damagedBank (bank s i) reason)
      (s := { s with au := damageAlert (bank s i) reason s.au }) rfl e
  have hqueue : t.ce = s.ce := by rw [← ht]; simp
  have hi : uncounted t i s.ce.holdQueue = givenUpBank i reason s := by
    simp only [uncounted, givenUpBank, holdsOn, hepochs]
    rw [← ht, bank_setBank]
  have hother : uncounted t i.other s.ce.holdQueue = uncounted s i.other s.ce.holdQueue := by
    simp only [uncounted, holdsOn, hepochs]
    rw [← ht, bank_other_setBank]
    rfl
  have hrelease : abandonCopies (releaseAll t) = givenUp i reason s := by
    rw [abandonCopies_eq, releaseAll_eq, released_eq, hqueue, givenUp, ← hi, ← hother, ← ht]
    cases i <;> rfl
  have hepoch : (bank (releaseAll t) i).epoch = (bank s i).epoch := by
    rw [((releaseAll_keeps t).moves i).epoch, ← ht, bank_setBank]
    rfl
  rw [giveUpCopying, hset]
  rw [hepoch, hrelease]

theorem damageBank_copying {i : BankId} {s : State} (h : (bank s i).state = .settling ∨ (bank s i).state = .draining)
    (reason : DamageReason) :
    damageBank i reason s = finishCopies (requestEnd (bank s i).epoch (givenUp i reason s)) := by
  rw [← giveUpCopying_setReason]
  rcases h with h | h <;> simp [damageBank, h]

theorem damageBank_closing {i : BankId} {s : State} (h : (bank s i).state = .closing) (reason : DamageReason) :
    damageBank i reason s = setBank i { bank s i with damage := (bank s i).damage.or (some reason) }
      { s with au := damageAlert (bank s i) reason s.au } := by
  rw [← setReason_eq]
  simp [damageBank, h]

theorem damageBank_idle {i : BankId} {s : State} (h : (bank s i).state = .free ∨ (bank s i).state = .opened)
    (reason : DamageReason) : damageBank i reason s = s := by
  rcases h with h | h <;> simp [damageBank, h]

/-! ## What follows the END request -/

theorem bank_givenUp (i : BankId) (reason : DamageReason) (s : State) :
    bank (givenUp i reason s) i = givenUpBank i reason s := by
  rw [givenUp, bank_setBank]

theorem bank_other_givenUp (i : BankId) (reason : DamageReason) (s : State) :
    bank (givenUp i reason s) i.other = uncounted s i.other s.ce.holdQueue := by
  rw [givenUp, bank_other_setBank, bank_setBank]

theorem bankOfEpoch_givenUp (i : BankId) (reason : DamageReason) (s : State) (e : Nat) :
    bankOfEpoch e (givenUp i reason s) = bankOfEpoch e s := by
  rw [givenUp, bankOfEpoch_setBank, bankOfEpoch_setBank]
  · rfl
  · cases i <;> rfl
  · cases i <;> rfl

section Copying

variable {s : State} {i : BankId} (reason : DamageReason)

theorem isCut_of_copying (h : (bank s i).state = .settling ∨ (bank s i).state = .draining) : (bank s i).state.isCut = true := by
  rcases h with h | h <;> rw [h] <;> rfl

theorem givenUp_requestEnd (hinv : JournalInv s) (h : (bank s i).state = .settling ∨ (bank s i).state = .draining)
    (e : Option Nat) : GivenUp (requestEnd e (givenUp i reason s)) := by
  refine ⟨⟨fun j => ?_, by simp [givenUp]⟩, fun c hc => ?_⟩
  · rw [bank_congr (t := givenUp i reason s) (by simp)]
    rcases BankId.eq_or_other i j with rfl | rfl
    · rw [bank_givenUp]
      simp [givenUpBank, damagedBank, Bank.skipPending]
    · rw [bank_other_givenUp]
      exact hinv.other_not_draining (isCut_of_copying h)
  · have hcopies : c ∈ s.ce.copies.map (abandonedCopy s.dp) := by simpa [givenUp] using hc
    obtain ⟨x, -, rfl⟩ := List.mem_map.1 hcopies
    rfl

/-- A damage of a bank that copies gives up, asks for the END record, and ends the copies with no read left. -/
theorem damageBank_endsVoid (hinv : JournalInv s) (h : (bank s i).state = .settling ∨ (bank s i).state = .draining) :
    EndsVoid (requestEnd (bank s i).epoch (givenUp i reason s)) (damageBank i reason s) := by
  rw [damageBank_copying h]
  exact finishCopies_endsVoid (givenUp_requestEnd reason hinv h _)

theorem damageBank_bank_copying (hinv : JournalInv s) (h : (bank s i).state = .settling ∨ (bank s i).state = .draining) :
    EndsSkipped (givenUpBank i reason s) (bank (damageBank i reason s) i) := by
  have hbanks := (damageBank_endsVoid reason hinv h).banks i
  rwa [bank_congr (t := givenUp i reason s) (by simp), bank_givenUp] at hbanks

theorem damageBank_queues (hinv : JournalInv s) (h : (bank s i).state = .settling ∨ (bank s i).state = .draining) :
    (damageBank i reason s).ce.holdQueue = [] ∧
      (damageBank i reason s).dp.passThrough =
        s.dp.passThrough ++ s.ce.holdQueue.filterMap (fun h => (findEntry h.entry s).map passRequest) ∧
      (damageBank i reason s).dp.tags = s.dp.tags ∧
      (damageBank i reason s).up = (issuedAll (s.ce.holdQueue.map HoldEntry.entry) s).up ∧
      (damageBank i reason s).au = damageAlert (bank s i) reason s.au ∧ (damageBank i reason s).tm = s.tm := by
  have hends := damageBank_endsVoid reason hinv h
  obtain ⟨bs, -, hdp⟩ := requestEnd_dp (bank s i).epoch (givenUp i reason s)
  rw [hends.ce, hends.dp, hends.up, hends.au, hends.tm, hdp]
  simp [givenUp]

theorem damageBank_abandons (hinv : JournalInv s) (h : (bank s i).state = .settling ∨ (bank s i).state = .draining) :
    ∀ c ∈ (damageBank i reason s).ce.copies, c.abandoned = true := fun c hc =>
  (givenUp_requestEnd reason hinv h (bank s i).epoch).abandoned c ((damageBank_endsVoid reason hinv h).copies c hc)

/-- No read of a copy in flight waits after a damage (R90). -/
theorem damageBank_withdraws (hinv : JournalInv s) (h : (bank s i).state = .settling ∨ (bank s i).state = .draining)
    {c : CopyOp} (hc : c ∈ s.ce.copies) {x : Request}
    (hx : x ∈ (damageBank i reason s).dp.urgent ++ (damageBank i reason s).dp.background) (k : Nat) :
    x.source ≠ .copyRead c.seq k := by
  have hends := damageBank_endsVoid reason hinv h
  obtain ⟨bs, hbs, hdp⟩ := requestEnd_dp (bank s i).epoch (givenUp i reason s)
  have hnone (l : List Request) (hl : x ∈ l.filter (readsNone s.ce.copies)) : x.source ≠ .copyRead c.seq k := by
    intro hsrc
    have hread := List.all_eq_true.1 (List.mem_filter.1 hl).2 c hc
    simp [Request.isReadOf, hsrc] at hread
  rcases List.mem_append.1 hx with hx | hx
  · rw [hends.dp, hdp] at hx
    exact hnone s.dp.urgent (by simpa [givenUp] using hx)
  · rcases hends.requests x hx with hx | hx
    · rw [hdp] at hx
      rcases List.mem_append.1 hx with hx | hx
      · exact hnone s.dp.background (by simpa [givenUp] using hx)
      · exact hbs x hx _ _
    · exact hx _ _

theorem damageBank_endRequest (hinv : JournalInv s) (h : (bank s i).state = .settling ∨ (bank s i).state = .draining) :
    (damageBank i reason s).rw.account.epoch = s.rw.account.epoch.or (bank s i).epoch ∧
      (freeSlots s.rw = 0 → (damageBank i reason s).rw.pendingEnd = (bank s i).epoch ∧
        (damageBank i reason s).rw.reserve = s.rw.reserve) ∧
      (1 ≤ freeSlots s.rw → (damageBank i reason s).rw.pendingEnd = s.rw.pendingEnd ∧
        (damageBank i reason s).rw.reserve = s.rw.reserve + 1 ∧
        (damageBank i reason s).rw.account.endSeq = some s.rw.reserve) := by
  have hrw : (givenUp i reason s).rw = s.rw := by simp [givenUp]
  rw [(damageBank_endsVoid reason hinv h).rw, ← hrw]
  exact ⟨requestEnd_epoch _ _, requestEnd_waits _, requestEnd_reserves _⟩

end Copying

end Sys2Proof.Safety


/-! # Damage and ABANDON by the state of each bank (R31, R33, R60, R90) -/

namespace Sys2Proof.Safety

open Sys2Proof.Machine

/-! ## The held writes of the bank that copies -/

section Copying

variable {s : State} {i : BankId} (reason : DamageReason)

theorem bankOfEpoch_of_waitsOn (hinv : JournalInv s) (hh : HoldInv s)
    (hs : (bank s i).state = .settling ∨ (bank s i).state = .draining) {h : HoldEntry} (hmem : h ∈ s.ce.holdQueue)
    {g e : Nat} (hw : h.waitsOn = some (g, e)) : bankOfEpoch e s = some i := by
  obtain ⟨j, hj, he, -⟩ := hh.ownListed h hmem g e hw
  rcases BankId.eq_or_other i j with rfl | rfl
  · exact hinv.bankOfEpoch_iff.2 he
  · have hcut := hinv.other_not_cut (isCut_of_copying hs)
    have hcopyable := holdBank_some hj
    cases hst : (bank s i.other).state <;> simp [hst, BankState.isCut, BankState.isCopyable] at hcut hcopyable

theorem holdsOn_copying (hinv : JournalInv s) (hh : HoldInv s)
    (hs : (bank s i).state = .settling ∨ (bank s i).state = .draining) (g : Nat) :
    holdsOn s i g s.ce.holdQueue = s.ce.holdQueue.filter fun h => h.waitsOn.any fun w => w.1 = g := by
  refine List.filter_congr fun h hmem => ?_
  cases hw : h.waitsOn with
  | none => rfl
  | some w => simp [bankOfEpoch_of_waitsOn hinv hh hs hmem (g := w.1) (e := w.2) hw]

theorem uncounted_other (hinv : JournalInv s) (hh : HoldInv s)
    (hs : (bank s i).state = .settling ∨ (bank s i).state = .draining) :
    uncounted s i.other s.ce.holdQueue = bank s i.other := by
  have hnone (g : Nat) : holdsOn s i.other g s.ce.holdQueue = [] := by
    refine List.filter_eq_nil_iff.2 fun h hmem => ?_
    cases hw : h.waitsOn with
    | none => simp
    | some w =>
      simp [bankOfEpoch_of_waitsOn hinv hh hs hmem (g := w.1) (e := w.2) hw, i.other_ne.symm]
  simp [uncounted, hnone]

/-- The other bank has no held write to lose. -/
theorem givenUp_of_hold (hinv : JournalInv s) (hh : HoldInv s)
    (hs : (bank s i).state = .settling ∨ (bank s i).state = .draining) :
    givenUp i reason s = setBank i (givenUpBank i reason s)
      { s with
        ce := { s.ce with holdQueue := [], copies := s.ce.copies.map (abandonedCopy s.dp) }
        up := (issuedAll (s.ce.holdQueue.map HoldEntry.entry) s).up
        au := damageAlert (bank s i) reason s.au
        dp := { s.dp with
          urgent := s.dp.urgent.filter (readsNone s.ce.copies)
          passThrough := s.dp.passThrough ++ s.ce.holdQueue.filterMap fun h => (findEntry h.entry s).map passRequest
          background := s.dp.background.filter (readsNone s.ce.copies)
          shareCounter := if s.dp.background.filter (readsNone s.ce.copies) = [] then 0 else s.dp.shareCounter } } := by
  rw [givenUp, uncounted_other hinv hh hs]
  cases i <;> rfl

/-! ## The entries after a damage (R31, R90) -/

theorem damageBank_endsAll (hinv : JournalInv s) (hs : (bank s i).state = .settling ∨ (bank s i).state = .draining)
    (hcopies : ∀ c ∈ s.ce.copies, (bank s i).epoch = some c.epoch) (hn : (s.ce.copies.map CopyOp.seq).Nodup) :
    EndsAll i (requestEnd (bank s i).epoch (givenUp i reason s)) (damageBank i reason s) := by
  have hgiven := givenUp_requestEnd reason hinv hs (bank s i).epoch
  have hcop : (requestEnd (bank s i).epoch (givenUp i reason s)).ce.copies = s.ce.copies.map (abandonedCopy s.dp) := by
    simp [givenUp]
  rw [damageBank_copying hs]
  refine finishCopies_endsAll hgiven.quiet hgiven.abandoned ?_ fun c hc => ?_
  · rw [hcop, List.map_map]
    exact hn
  · rw [hcop] at hc
    obtain ⟨x, hx, rfl⟩ := List.mem_map.1 hc
    have hju : (requestEnd (bank s i).epoch (givenUp i reason s)).ju = (givenUp i reason s).ju := by simp
    rw [bankOfEpoch, findBank_congr _ hju]
    exact (bankOfEpoch_givenUp i reason s _).trans (hinv.bankOfEpoch_iff.2 (hcopies x hx))

/-- An entry after the damage. -/
def damagedEntry (s : State) (n : Nat) (d : DirtyEntry) : DirtyEntry :=
  { d with
    state := if d.state = .pending ∨ endedAt (s.ce.copies.map (abandonedCopy s.dp)) n = true then .skipped else d.state
    held := d.held - (s.ce.holdQueue.filter fun h => h.waitsOn.any fun w => w.1 = d.granule).length }

theorem damageBank_entries (hinv : JournalInv s) (hh : HoldInv s)
    (hs : (bank s i).state = .settling ∨ (bank s i).state = .draining)
    (hcopies : ∀ c ∈ s.ce.copies, (bank s i).epoch = some c.epoch) (hn : (s.ce.copies.map CopyOp.seq).Nodup) :
    (bank (damageBank i reason s) i).dirty = (bank s i).dirty.mapIdx (damagedEntry s) := by
  have hbank : bank (requestEnd (bank s i).epoch (givenUp i reason s)) i = givenUpBank i reason s :=
    (bank_congr (by simp) i).trans (bank_givenUp i reason s)
  have hcop : (requestEnd (bank s i).epoch (givenUp i reason s)).ce.copies = s.ce.copies.map (abandonedCopy s.dp) := by
    simp [givenUp]
  rw [(damageBank_endsAll reason hinv hs hcopies hn).entries, hbank, hcop]
  apply List.ext_getElem
  · simp [endedEntries, givenUpBank, damagedBank, Bank.skipPending]
  · intro n h1 h2
    simp only [endedEntries, givenUpBank, damagedBank, Bank.skipPending, holdsOn_copying hinv hh hs, damagedEntry,
      List.getElem_mapIdx, List.getElem_map]
    generalize (bank s i).dirty[n]'(by simpa using h2) = d
    by_cases hp : d.state = .pending <;>
      by_cases he : endedAt (s.ce.copies.map (abandonedCopy s.dp)) n = true <;> simp [hp, he]

/-- Copies differ in their entries, so the entry of a copy is ended exactly with it. -/
theorem endedAt_abandoned (hn : (s.ce.copies.map CopyOp.index).Nodup) {c : CopyOp} (hc : c ∈ s.ce.copies) :
    endedAt (s.ce.copies.map (abandonedCopy s.dp)) c.index = true ↔
      16 ≤ c.resolved + ((s.dp.urgent ++ s.dp.background).filter (Request.isReadOf c.seq)).length := by
  simp only [endedAt, List.any_map, List.any_eq_true, Function.comp_apply, Bool.and_eq_true, decide_eq_true_eq]
  constructor
  · rintro ⟨x, hx, hi, h⟩
    obtain rfl : x = c := List.inj_on_of_nodup_map hn hx hc hi
    exact h
  · exact fun h => ⟨c, hc, rfl, h⟩

theorem endedAt_mem {copies : List CopyOp} {dp : DownstreamPort} {n : Nat}
    (h : endedAt (copies.map (abandonedCopy dp)) n = true) : ∃ c ∈ copies, c.index = n := by
  simp only [endedAt, List.any_map, List.any_eq_true, Function.comp_apply, Bool.and_eq_true, decide_eq_true_eq] at h
  obtain ⟨c, hc, hi, -⟩ := h
  exact ⟨c, hc, hi⟩

end Copying

/-- Settles O44: the bank that copies gives up (`givenUp`), asks for its END record, and its copies end one after another
(`damageBank_endsAll`). -/
theorem damageRule : Obligations.DamageRule := by
  rintro s t i reason hinv hh hcopies hseq hindex rfl
  refine ⟨fun h => damageBank_idle h reason, fun h => ?_, fun h => ?_⟩
  · rw [damageBank_closing h]
    refine ⟨fun hd => ?_, fun hd => ?_⟩
    · obtain ⟨x, hx⟩ := Option.ne_none_iff_exists'.1 hd
      have hself : ({ bank s i with damage := some x } : Bank) = bank s i := by rw [← hx]
      simp only [hx, Option.some_or, damageAlert, hself, reduceCtorEq, false_and, if_false]
      exact setBank_bank i s
    · rw [hd]
      by_cases hr : reason = .abandon <;> cases i <;> simp [setBank, damageAlert, hd, hr]
  · have hcut := isCut_of_copying h
    have hepoch : ∀ c ∈ s.ce.copies, (bank s i).epoch = some c.epoch := fun c hc => (hcopies c hc hcut).1
    have hends := damageBank_endsAll reason hinv h hepoch hseq
    have hbank := damageBank_bank_copying reason hinv h
    have hdirty := damageBank_entries reason hinv hh h hepoch hseq
    obtain ⟨hqueue, hpass, htags, hup, hau, htm⟩ := damageBank_queues reason hinv h
    obtain ⟨hend, hfull, hfree⟩ := damageBank_endRequest reason hinv h
    have hother : bank (damageBank i reason s) i.other = bank s i.other := by
      rw [hends.other, bank_congr (t := givenUp i reason s) (by simp), bank_other_givenUp, uncounted_other hinv hh h]
    refine ⟨?_, ?_, ?_, ?_, ?_, ?_, ?_, fun n d hd => ?_, hother, hqueue, hpass, fun c hc => ?_, ?_, ?_, ?_, htm, ?_, ?_, htags,
      hup, hend, hfull, hfree, ?_⟩
    · rw [hbank.same]; rfl
    · rw [hbank.same]; rfl
    · rw [hbank.same]; rfl
    · rw [hbank.same]; rfl
    · rw [hbank.same]; rfl
    · rw [hbank.same]; rfl
    · rw [hdirty, List.length_mapIdx]
    · have hcopying (he : endedAt (s.ce.copies.map (abandonedCopy s.dp)) n = true) : d.state = .copying := by
        obtain ⟨c, hc, rfl⟩ := endedAt_mem he
        obtain ⟨-, d', hd', hstate⟩ := hcopies c hc hcut
        rw [hd] at hd'
        exact Option.some.inj hd' ▸ hstate
      refine ⟨damagedEntry s n d, by rw [hdirty, List.getElem?_mapIdx, hd]; rfl, rfl, rfl, ?_, ?_, ?_, ?_⟩
      · exact fun hp => if_pos (.inl hp)
      · intro hdone
        refine if_neg ?_
        rintro (hp | he)
        · rcases hdone with hdone | hdone <;> rw [hp] at hdone <;> cases hdone
        · rw [hcopying he] at hdone
          rcases hdone with hdone | hdone <;> cases hdone
      · intro hc
        show (if _ then EntryState.skipped else d.state) = .copying ∨ _
        split
        exacts [.inr (if_pos ‹_›), .inl hc]
      · rintro c hc rfl
        obtain ⟨-, d', hd', hstate⟩ := hcopies c hc hcut
        obtain rfl := Option.some.inj (hd'.symm.trans hd)
        simp only [damagedEntry, endedAt_abandoned hindex hc, hstate, reduceCtorEq, false_or]
        generalize c.resolved + _ = n
        by_cases hlt : n < 16
        · rw [if_pos hlt, if_neg (Nat.not_le.2 hlt)]
        · rw [if_neg hlt, if_pos (Nat.not_lt.1 hlt)]
    · rw [hends.copies] at hc
      exact ⟨damageBank_abandons reason hinv h c (by rw [hends.copies]; exact hc), by simpa using (List.mem_filter.1 hc).2⟩
    · exact fun c hc x hx k => damageBank_withdraws reason hinv h hc hx k
    · rw [hau]; rfl
    · simp
    · simp
    · simp
    · rintro u waits skipped hwaits hskipped rfl
      obtain rfl : waits = readsNone s.ce.copies := funext hwaits
      have hlist : (givenUpBank i reason s).dirty = (bank s i).dirty.map skipped := by
        simp only [givenUpBank, damagedBank, Bank.skipPending, List.map_map]
        refine List.map_congr_left fun d _ => ?_
        rw [hskipped, Function.comp_apply, holdsOn_copying hinv hh h]
        by_cases hp : d.state = .pending <;> simp [hp]
      rw [hup, hpass, hau, damageBank_copying h, givenUp_of_hold reason hinv hh h, ← hlist]
      rfl

end Sys2Proof.Safety


/-! # ABANDON (R26, R59, R60) -/

namespace Sys2Proof.Safety

open Sys2Proof.Machine

section Command

variable {s : State}

theorem abandonCut_of_cut (hinv : JournalInv s) {i : BankId} (h : (bank s i).state.isCut = true) :
    abandonCut s = damageBank i .abandon s := by
  simp [abandonCut, hinv.cutBank_eq h]

theorem abandonCut_of_none (h : ∀ i, (bank s i).state.isCut = false) : abandonCut s = s := by
  have hnone : cutBank s = none := findBank_none.2 h
  simp [abandonCut, hnone]

theorem damageAlert_abandon (b : Bank) (au : AlertUnit) : damageAlert b .abandon au = au := by
  simp [damageAlert]

/-- The damage of the cut bank leaves alone what the record of the OPEN one says, and raises nothing. -/
theorem abandonCut_spares (hinv : JournalInv s) :
    (∀ j, (bank s j).state = .opened → abandonedRecord (bank (abandonCut s) j) = abandonedRecord (bank s j)) ∧
      (abandonCut s).au = s.au ∧ (abandonCut s).tm = s.tm := by
  by_cases hcut : ∃ i, (bank s i).state.isCut = true
  · obtain ⟨i, hi⟩ := hcut
    rw [abandonCut_of_cut hinv hi]
    have hopen {j : BankId} (hj : (bank s j).state = .opened) : j = i.other := by
      refine (BankId.eq_or_other i j).resolve_left ?_
      rintro rfl
      rw [hj] at hi
      cases hi
    cases hst : (bank s i).state with
    | free => rw [hst] at hi; cases hi
    | opened => rw [hst] at hi; cases hi
    | closing =>
      rw [damageBank_closing hst, damageAlert_abandon]
      refine ⟨fun j hj => ?_, by simp, by simp⟩
      obtain rfl := hopen hj
      rw [bank_other_setBank]
    | settling | draining =>
      have hcopying : (bank s i).state = .settling ∨ (bank s i).state = .draining := by simp [hst]
      obtain ⟨-, -, -, -, hau, htm⟩ := damageBank_queues .abandon hinv hcopying
      refine ⟨fun j hj => ?_, by rw [hau, damageAlert_abandon], htm⟩
      obtain rfl := hopen hj
      have hbanks := ((damageBank_endsVoid .abandon hinv hcopying).banks i.other).same
      rw [bank_congr (s := requestEnd _ _) (t := givenUp i .abandon s) (by simp), bank_other_givenUp] at hbanks
      rw [hbanks]
      rfl
  · rw [abandonCut_of_none fun i => by simpa using fun h => hcut ⟨i, h⟩]
    exact ⟨fun _ _ => rfl, rfl, rfl⟩

/-! ## The state after the command -/

theorem abandonCommand_idle (h : ∀ i, (bank s i).state ≠ .opened) :
    (abandonCommand s).2 = { abandonCut s with ec := { s.ec with journal := .off, powerCutPending := false } } := by
  have hnone : openBank (abandonCut s) = none :=
    openBank_none fun i hi => h i (((abandonCut_keeps s).moves i).opened.1 hi)
  have hec : (abandonCut s).ec = s.ec := by simp
  rw [abandonCommand_state, abandonOpen, hnone, ← hec]
  rfl

theorem abandonCommand_open (hinv : JournalInv s) {j : BankId} (h : (bank s j).state = .opened) :
    (abandonCommand s).2 = setBank j freeBank { abandonCut s with
      ec := { s.ec with
        journal := .off
        powerCutPending := false
        log := (abandonedRecord (bank s j) :: s.ec.log).take 16 }
      au := { (abandonCut s).au with pending := (abandonCut s).au.pending ||| 0x01#8 } } := by
  have hopen : openBank (abandonCut s) = some j :=
    (hinv.keeps (abandonCut_keeps s)).openBank_eq (((abandonCut_keeps s).moves j).opened.2 h)
  have hec : (abandonCut s).ec = s.ec := by simp
  rw [abandonCommand_state, abandonOpen, hopen, ← (abandonCut_spares hinv).1 j h, ← hec]
  cases j <;> rfl

theorem bank_abandonCommand (hinv : JournalInv s) {i : BankId} (h : (bank s i).state ≠ .opened) :
    bank (abandonCommand s).2 i = bank (abandonCut s) i := by
  by_cases hopen : ∃ j, (bank s j).state = .opened
  · obtain ⟨j, hj⟩ := hopen
    have hne : i ≠ j := by
      rintro rfl
      exact h hj
    rw [abandonCommand_open hinv hj, bank_setBank_ne j i _ _ hne]
    exact bank_congr rfl i
  · rw [abandonCommand_idle fun j hj => hopen ⟨j, hj⟩]
    exact bank_congr rfl i

/-- After the cut bank's damage, the command changes banks, EC and AU alone. -/
theorem abandonCommand_frame (s : State) :
    (abandonCommand s).2.ce = (abandonCut s).ce ∧ (abandonCommand s).2.rw = (abandonCut s).rw ∧
      (abandonCommand s).2.dp = (abandonCut s).dp ∧ (abandonCommand s).2.up = (abandonCut s).up ∧
      (abandonCommand s).2.tm = (abandonCut s).tm ∧ (abandonCommand s).2.fq = (abandonCut s).fq ∧
      (abandonCommand s).2.mp = (abandonCut s).mp ∧ (abandonCommand s).2.out = (abandonCut s).out ∧
      (abandonCommand s).2.wu = (abandonCut s).wu := by
  rw [abandonCommand_state, abandonOpen]
  split <;> simp

theorem abandonCut_ports (s : State) :
    (abandonCut s).fq = s.fq ∧ (abandonCut s).mp = s.mp ∧ (abandonCut s).out = s.out := by
  unfold abandonCut
  split <;> simp

theorem abandonCommand_off (s : State) :
    (abandonCommand s).2.ec.journal = .off ∧ (abandonCommand s).2.ec.powerCutPending = false ∧
      (abandonCommand s).2.ec.transparentWrites = s.ec.transparentWrites := by
  have hec : (abandonCut s).ec = s.ec := by simp
  rw [abandonCommand_state, abandonOpen, ← hec]
  split
  · exact ⟨rfl, rfl, rfl⟩
  · exact ⟨rfl, rfl, by simp [endEpoch]⟩

theorem givenUpBank_not_pending (i : BankId) (reason : DamageReason) (s : State) :
    ∀ d ∈ (givenUpBank i reason s).dirty, d.state ≠ .pending := by
  intro d hd
  simp only [givenUpBank, damagedBank, Bank.skipPending, List.map_map] at hd
  obtain ⟨x, -, rfl⟩ := List.mem_map.1 hd
  by_cases hx : x.state = .pending <;> simp [hx]

/-- With no epoch nothing is left to abandon. -/
theorem abandonCommand_of_free (hinv : JournalInv s) (hj : s.ec.journal = .off) (h : ∀ i, bank s i = freeBank) :
    (abandonCommand s).2 = s := by
  have hheld : s.ec.powerCutPending = false := by
    cases hp : s.ec.powerCutPending with
    | false => rfl
    | true =>
      have hrec := (hinv.heldCut hp).1
      rw [hj] at hrec
      cases hrec
  have hself : s.ec = { s.ec with journal := .off, powerCutPending := false } := by rw [← hj, ← hheld]
  rw [abandonCommand_idle fun i => by simp [h i, freeBank], abandonCut_of_none fun i => by rw [h i]; rfl, ← hself]

end Command

/-- Settles O26: the damage of the cut bank (`damageBank_copying`, `damageBank_closing`), and then the OPEN bank's end
(`abandonCommand_open`). -/
theorem abandonRule : Obligations.AbandonRule := by
  intro s hr hinv
  obtain ⟨hce, hrw, hdp, hup, htm, hfq, hmp, hout, hwu⟩ := abandonCommand_frame s
  obtain ⟨hcfq, hcmp, hcout⟩ := abandonCut_ports s
  obtain ⟨hspares, hcau, hctm⟩ := abandonCut_spares hinv
  obtain ⟨hoff, hpending, htrans⟩ := abandonCommand_off s
  refine ⟨⟨(abandonCommand s).2, ?_, hoff, hpending, htrans, by rw [hwu]; simp, hfq.trans hcfq, htm.trans hctm,
    by rw [hrw]; simp, hmp.trans hcmp, hout.trans hcout, fun i hi => ?_, fun i hi => ?_, fun i hi => ?_, fun i hi => ?_,
    fun hn => ?_, fun i hi => ?_, fun x hx1 hx2 => ?_⟩, fun hj ha hb => ?_⟩
  · refine (execute_high hr).trans ?_
    simp only [abandonCommand, taken, bankBytes, optBytes, List.append_assoc]
  · rw [bank_abandonCommand hinv (by simp [hi])]
    exact ((abandonCut_keeps s).moves i).idle ((hinv.shape i).shape.1 hi)
  · rw [abandonCommand_open hinv hi, bank_setBank]
    refine ⟨rfl, ?_, by simp [abandonedRecord]⟩
    simp
  · rw [bank_abandonCommand hinv (by simp [hi]), hce, hrw, hdp, abandonCut_of_cut hinv (i := i) (by rw [hi]; rfl),
      damageBank_closing hi]
    simp
  · have hne : (bank s i).state ≠ .opened := by rcases hi with hi | hi <;> simp [hi]
    have hbank := damageBank_bank_copying .abandon hinv hi
    obtain ⟨hqueue, hpass, -, hheld, -, -⟩ := damageBank_queues .abandon hinv hi
    rw [bank_abandonCommand hinv hne, hce, hdp, hup, abandonCut_of_cut hinv (isCut_of_copying hi)]
    refine ⟨?_, ?_, ?_, hqueue, hpass, hheld, damageBank_abandons .abandon hinv hi, fun d hd => ?_⟩
    · rw [hbank.same]; rfl
    · rw [hbank.same]; rfl
    · rw [hbank.same]; rfl
    · rcases hbank.entries d hd with hd | hd
      · exact givenUpBank_not_pending i .abandon s d hd
      · simp [hd]
  · rw [abandonCommand_idle hn]
    exact hcau
  · rw [abandonCommand_open hinv hi, ← hcau]
    simp
  · have hx : x = abandonCut s := by
      by_cases hcut : ∃ i, (bank s i).state.isCut = true
      · obtain ⟨i, hi⟩ := hcut
        rw [hx2 i hi, abandonCut_of_cut hinv hi]
      · have hnone (i : BankId) : (bank s i).state.isCut = false := by simpa using fun h => hcut ⟨i, h⟩
        rw [hx1 hnone, abandonCut_of_none hnone]
    rw [hx]
    refine ⟨abandonCommand_idle, fun i hi => ?_⟩
    rw [abandonCommand_open hinv hi]
    simp
  · have hfree (i : BankId) : bank s i = freeBank := by
      have hst : (bank s i).state = .free := by cases i <;> assumption
      exact (hinv.shape i).shape.1 hst
    have hsame := abandonCommand_of_free hinv hj hfree
    refine (execute_high hr).trans ?_
    rw [hsame, raiseRingLow_self]
    simp only [abandonCommand, taken] at hsame ⊢
    rw [hsame]
    show Host.Outcome.next (deliverAnswer .abandon ⟨.ok, bankBytes (bank s .a) ++ bankBytes (bank s .b)⟩ s) = _
    rw [hfree, hfree]
    rfl

end Sys2Proof.Safety


/-! # The port reset (R48, R68, R94, R139) -/

namespace Sys2Proof.Safety

open Sys2Proof.Machine

/-! ## The counts that a discarded write leaves (R35, R50) -/

/-- A write in the settle count of a bank. -/
def settlesIn (b : Bank) (e : TrackerEntry) : Bool :=
  decide (e.stream.direction = .write ∧ e.epochTag ≠ none ∧ e.epochTag = b.epoch)

/-- A write in the Transparent Write Count. -/
def countsTransparent (e : TrackerEntry) : Bool :=
  decide (e.stream.direction = .write ∧ e.epochTag = none ∧ e.mode = .transparent)

/-- A bank whose settle count writes have left. -/
def unsettled (es : List TrackerEntry) (b : Bank) : Bank :=
  { b with settle := b.settle - (es.filter (settlesIn b)).length }

/-- The bridge after writes have left their counts. -/
def leftCounts (es : List TrackerEntry) (s : State) : State :=
  { s with
    ju := { bankA := unsettled es (bank s .a), bankB := unsettled es (bank s .b) }
    ec := { s.ec with transparentWrites := s.ec.transparentWrites - (es.filter countsTransparent).length } }

theorem leftCounts_append (xs ys : List TrackerEntry) (s : State) :
    leftCounts ys (leftCounts xs s) = leftCounts (xs ++ ys) s := by
  have hbank (b : Bank) : unsettled ys (unsettled xs b) = unsettled (xs ++ ys) b := by
    have hsettles : settlesIn (unsettled xs b) = settlesIn b := rfl
    simp only [unsettled, List.filter_append, List.length_append, ← Nat.sub_sub]
    rw [← hsettles]
    rfl
  have hec : s.ec.transparentWrites - (xs.filter countsTransparent).length - (ys.filter countsTransparent).length =
      s.ec.transparentWrites - ((xs ++ ys).filter countsTransparent).length := by
    rw [List.filter_append, List.length_append, Nat.sub_sub]
  simp only [leftCounts, ← hbank, ← hec]
  rfl

theorem unsettled_of_settlesIn {b : Bank} {e : TrackerEntry} (h : settlesIn b e = true) :
    unsettled [e] b = { b with settle := b.settle - 1 } := by
  simp [unsettled, h]

theorem unsettled_of_not {b : Bank} {e : TrackerEntry} (h : settlesIn b e = false) : unsettled [e] b = b := by
  simp [unsettled, h]

theorem leftCounts_of_not {e : TrackerEntry} {s : State} (hb : ∀ i, settlesIn (bank s i) e = false)
    (ht : countsTransparent e = false) : leftCounts [e] s = s := by
  simp only [leftCounts, unsettled_of_not (hb _), List.filter_cons, ht]
  rfl

theorem leaveCount_eq {s : State} (hinv : JournalInv s) (e : TrackerEntry) : leaveCount e s = leftCounts [e] s := by
  cases hd : e.stream.direction with
  | read =>
    rw [leftCounts_of_not (fun i => by simp [settlesIn, hd]) (by simp [countsTransparent, hd])]
    simp [leaveCount, hd]
  | write =>
    cases ht : e.epochTag with
    | some x =>
      have hcount : countsTransparent e = false := by simp [countsTransparent, ht]
      have hleave : leaveCount e s = countSettled x s := by simp [leaveCount, hd, ht]
      have hin (j : BankId) : settlesIn (bank s j) e = true ↔ bankOfEpoch x s = some j := by
        rw [hinv.bankOfEpoch_iff]
        simp [settlesIn, hd, ht, eq_comm]
      rw [hleave]
      rcases countSettled_cases x s with ⟨hn, h⟩ | ⟨i, hi, h⟩ <;> rw [h]
      · refine (leftCounts_of_not (fun j => ?_) hcount).symm
        simpa [hn] using (hin j).not
      · have hout (j : BankId) (hj : j ≠ i) : settlesIn (bank s j) e = false := by
          simpa [hi, hj.symm] using (hin j).not
        simp only [leftCounts, List.filter_cons, hcount]
        cases i
        · rw [unsettled_of_settlesIn ((hin .a).2 hi), unsettled_of_not (hout .b (by decide))]
          rfl
        · rw [unsettled_of_settlesIn ((hin .b).2 hi), unsettled_of_not (hout .a (by decide))]
          rfl
    | none =>
      have hout (i : BankId) : settlesIn (bank s i) e = false := by simp [settlesIn, ht]
      cases hm : e.mode with
      | guarded =>
        rw [leftCounts_of_not hout (by simp [countsTransparent, hm])]
        simp [leaveCount, hd, ht, hm]
      | transparent =>
        have hcount : countsTransparent e = true := by simp [countsTransparent, hd, ht, hm]
        simp only [leftCounts, unsettled_of_not (hout _), List.filter_cons, hcount, leaveCount, hd, ht, hm]
        rfl

theorem foldl_leaveCount {s : State} (hinv : JournalInv s) (es : List TrackerEntry) :
    es.foldl (fun s e => leaveCount e s) s = leftCounts es s := by
  induction es generalizing s with
  | nil => rfl
  | cons e es ih =>
    rw [List.foldl_cons, ih (hinv.keeps (leaveCount_keeps e s)), leaveCount_eq hinv, leftCounts_append]
    rfl

/-! ## The state before a bank moves on -/

/-- The writes that an assertion discards. -/
def dropped (s : State) : List TrackerEntry := s.up.tracker.filter fun e => decide (e.phase = .held)

/-- A bank with its PORT_RESET flag, set when it is OPEN (R44). -/
def flagged (b : Bank) : Bank := { b with portReset := b.portReset || b.state = .opened }

/-- A bank after the discards: flagged when OPEN, its held writes and its discarded writes out of their counts. -/
def resetBank (s : State) (i : BankId) : Bank :=
  { bank s i with
    portReset := (bank s i).portReset || (bank s i).state = .opened
    settle := (bank s i).settle - ((dropped s).filter (settlesIn (bank s i))).length
    dirty := (bank s i).dirty.map fun d => { d with held := d.held - (holdsOn s i d.granule s.ce.holdQueue).length } }

/-- The bridge after the discards, before a SETTLING bank moves on. -/
def resetLeft (s : State) : State :=
  { s with
    pins := { s.pins with portRstN := false }
    ju := { bankA := resetBank s .a, bankB := resetBank s .b }
    ec := { s.ec with transparentWrites := s.ec.transparentWrites - ((dropped s).filter countsTransparent).length }
    ce := { s.ce with holdQueue := [] }
    up := { portState := .inReset, staging := none, tracker := keepIssued s.up.tracker } }

theorem bank_resetLeft (s : State) (i : BankId) : bank (resetLeft s) i = resetBank s i := by cases i <;> rfl

theorem flagged_of_open {b : Bank} (h : b.state = .opened) : flagged b = { b with portReset := true } := by
  simp [flagged, h]

theorem flagged_of_not {b : Bank} (h : b.state ≠ .opened) : flagged b = b := by
  simp [flagged, h]

theorem flagOpenBank_eq {s : State} (hinv : JournalInv s) :
    flagOpenBank s = withBanks (flagged (bank s .a)) (flagged (bank s .b)) s := by
  unfold flagOpenBank
  cases hi : openBank s with
  | none =>
    have hn (i : BankId) : (bank s i).state ≠ .opened := by simpa using findBank_none.1 hi i
    rw [flagged_of_not (hn .a), flagged_of_not (hn .b)]
    rfl
  | some i =>
    have hopen := openBank_some hi
    have hother : (bank s i.other).state ≠ .opened := fun ho => (hinv.shape i).oneOpen ⟨hopen, ho⟩
    cases i
    · rw [flagged_of_open hopen, flagged_of_not (b := bank s .b) hother]
      rfl
    · rw [flagged_of_open hopen, flagged_of_not (b := bank s .a) hother]
      rfl

theorem portReset_eq {s : State} (hinv : JournalInv s) :
    portReset (setPortRstN false s) = (dropped s).foldl (fun s e => drainAfter e s) (resetLeft s) := by
  have hpin : JournalInv (setPortRstN false s) := hinv.of_frame rfl rfl rfl
  have hdiscard := hpin.keeps (discardHolds_keeps _)
  have hflag := hdiscard.keeps (flagOpenBank_keeps _)
  unfold portReset
  dsimp only
  rw [foldl_leaveCount, flagOpenBank_eq hdiscard, discardHolds, foldl_uncountHold]
  · rfl
  · exact hflag.of_frame rfl rfl rfl

/-! ## The bank that moves on (R29, R30, R48) -/

/-- What the end of settling may do to a bank. -/
structure Drains (b c : Bank) : Prop where
  same : c = { b with state := c.state, dirty := c.dirty, urgent := c.urgent }
  granules : c.dirty.map DirtyEntry.granule = b.dirty.map DirtyEntry.granule
  helds : c.dirty.map DirtyEntry.held = b.dirty.map DirtyEntry.held
  state : c.state = b.state ∨ b.state = .settling ∧ (c.state = .draining ∨ c.state = .closing)

theorem Drains.settling {b c : Bank} (h : Drains b c) (hc : c.state = .settling) : b.state = .settling :=
  h.state.elim (fun he => he ▸ hc) And.left

theorem Drains.refl (b : Bank) : Drains b b := ⟨rfl, rfl, rfl, .inl rfl⟩

theorem closeIfResolved_bank (i : BankId) (s : State) (j : BankId) :
    bank (closeIfResolved i s) j = bank s j ∨
      j = i ∧ bank (closeIfResolved i s) j = { bank s j with state := .closing } := by
  rcases closeIfResolved_cases i s with h | ⟨-, -, h⟩ <;> rw [h]
  · exact .inl rfl
  · rw [becomeClosing, bank_congr (s := requestEnd _ _) (t := setBank i { bank s i with state := .closing } s) (by simp)]
    rcases BankId.eq_or_other i j with rfl | rfl
    · exact .inr ⟨rfl, by rw [bank_setBank]⟩
    · exact .inl (by rw [bank_other_setBank])

theorem drainIfSettled_drains (i : BankId) (s : State) (j : BankId) : Drains (bank s j) (bank (drainIfSettled i s) j) := by
  rcases drainIfSettled_cases i s with h | ⟨hs, -, h⟩ <;> rw [h]
  · exact .refl _
  · have hstarts := startCopies_banks (setBank i { bank s i with state := .draining } s) j
    generalize startCopies (setBank i { bank s i with state := .draining } s) = u at hstarts
    rcases BankId.eq_or_other i j with rfl | rfl
    · rw [bank_setBank] at hstarts
      have hst : (bank u j).state = .draining := hstarts.state
      rcases closeIfResolved_bank j u j with hc | ⟨-, hc⟩ <;> rw [hc]
      · exact ⟨by rw [hstarts.same], hstarts.granules, hstarts.helds, .inr ⟨hs, .inl hst⟩⟩
      · exact ⟨by rw [hstarts.same], hstarts.granules, hstarts.helds, .inr ⟨hs, .inr rfl⟩⟩
    · rw [bank_other_setBank] at hstarts
      rcases closeIfResolved_bank i u i.other with hc | ⟨he, -⟩
      · rw [hc]
        exact ⟨by rw [hstarts.same], hstarts.granules, hstarts.helds, .inl hstarts.state⟩
      · exact absurd he i.other_ne

theorem drainIfSettled_left {i : BankId} {s : State} (hs : (bank s i).state = .settling) (h0 : (bank s i).settle = 0) :
    (bank (drainIfSettled i s) i).state ≠ .settling := by
  have hst := (startCopies_banks (setBank i { bank s i with state := .draining } s) i).state
  rw [bank_setBank] at hst
  rw [drainIfSettled_of_settled hs h0]
  rcases closeIfResolved_bank i (startCopies (setBank i { bank s i with state := .draining } s)) i with hc | ⟨-, hc⟩ <;> rw [hc]
  · rw [hst]
    simp
  · simp

theorem drainAfter_of_not {e : TrackerEntry} {s : State}
    (h : ∀ j, settlesIn (bank s j) e = true → (bank s j).state ≠ .settling ∨ (bank s j).settle ≠ 0) : drainAfter e s = s := by
  cases hd : e.stream.direction with
  | read => simp [drainAfter, hd]
  | write =>
    cases ht : e.epochTag with
    | none => simp [drainAfter, hd, ht]
    | some x =>
      have hdrain : drainAfter e s = drainEpoch x s := by simp [drainAfter, hd, ht]
      rw [hdrain]
      rcases drainEpoch_cases x s with ⟨-, hn⟩ | ⟨i, hi, hn⟩ <;> rw [hn]
      exact drainIfSettled_of_not (h i (by simp [settlesIn, hd, ht, bankOfEpoch_some hi]))

theorem foldl_drainAfter_of_not {es : List TrackerEntry} {s : State}
    (h : ∀ e ∈ es, ∀ j, settlesIn (bank s j) e = true → (bank s j).state ≠ .settling ∨ (bank s j).settle ≠ 0) :
    es.foldl (fun s e => drainAfter e s) s = s := by
  induction es with
  | nil => rfl
  | cons e es ih =>
    rw [List.foldl_cons, drainAfter_of_not (h e (by simp))]
    exact ih fun x hx => h x (by simp [hx])

theorem drainAfter_of_settlesIn {e : TrackerEntry} {s : State} {i : BankId} (hinv : JournalInv s)
    (h : settlesIn (bank s i) e = true) : drainAfter e s = drainIfSettled i s := by
  simp only [settlesIn, decide_eq_true_eq] at h
  obtain ⟨hd, hn, he⟩ := h
  obtain ⟨x, hx⟩ := Option.ne_none_iff_exists'.1 hn
  have hi : bankOfEpoch x s = some i := hinv.bankOfEpoch_iff.2 (he.symm.trans hx)
  simp [drainAfter, hd, hx, drainEpoch, hi]

/-- The first discarded write of a SETTLING bank whose count is 0 moves it on, and nothing moves after it. -/
theorem foldl_drainAfter_of_settled {es : List TrackerEntry} {s : State} {i : BankId} (hinv : JournalInv s)
    (hs : (bank s i).state = .settling) (h0 : (bank s i).settle = 0) (hex : ∃ e ∈ es, settlesIn (bank s i) e = true) :
    es.foldl (fun s e => drainAfter e s) s = drainIfSettled i s := by
  have hother : (bank s i.other).state ≠ .settling := fun ho => by
    have hcut := hinv.other_not_cut (i := i) (by rw [hs]; rfl)
    simp [ho, BankState.isCut] at hcut
  induction es with
  | nil => simp at hex
  | cons e es ih =>
    rw [List.foldl_cons]
    cases he : settlesIn (bank s i) e with
    | true =>
      rw [drainAfter_of_settlesIn hinv he]
      refine foldl_drainAfter_of_not fun x _ j _ => .inl ?_
      rcases BankId.eq_or_other i j with rfl | rfl
      · exact drainIfSettled_left hs h0
      · exact fun hj => hother ((drainIfSettled_drains i s i.other).settling hj)
    | false =>
      rw [drainAfter_of_not fun j hj => ?_]
      · refine ih ?_
        obtain ⟨x, hx, hxi⟩ := hex
        rcases List.mem_cons.1 hx with rfl | hx
        · simp [he] at hxi
        · exact ⟨x, hx, hxi⟩
      · rcases BankId.eq_or_other i j with rfl | rfl
        · simp [he] at hj
        · exact .inl hother

end Sys2Proof.Safety


/-! # PORT_RST_N by its level and by the bank that settles (R128, R139, R141) -/

namespace Sys2Proof.Safety

open Sys2Proof.Machine

section Reset

variable {s : State}

/-- The number of discarded writes in the settle count of a bank. -/
def discards (s : State) (i : BankId) : Nat := ((dropped s).filter (settlesIn (bank s i))).length

theorem resetLeft_keeps (s : State) : KeepsJournal s (resetLeft s) := by
  refine ⟨rfl, rfl, rfl, fun i => ?_⟩
  rw [bank_resetLeft]
  exact ⟨Iff.rfl, Iff.rfl, rfl, fun h => by simp [resetBank, h, freeBank]⟩

theorem one_le_discards {i : BankId} {e : TrackerEntry} (he : e ∈ dropped s) (h : settlesIn (bank s i) e = true) :
    1 ≤ discards s i := List.length_pos_of_mem (List.mem_filter.2 ⟨he, h⟩)

/-- No SETTLING bank lost its last write, so no bank moves on. -/
theorem portReset_of_quiet (hinv : JournalInv s)
    (h : ∀ i, (bank s i).state = .settling → discards s i = 0 ∨ discards s i < (bank s i).settle) :
    portReset (setPortRstN false s) = resetLeft s := by
  rw [portReset_eq hinv]
  refine foldl_drainAfter_of_not fun e he j hj => ?_
  rw [bank_resetLeft] at hj ⊢
  have hpos := one_le_discards he hj
  by_cases hs : (bank s j).state = .settling
  · have hlt := (h j hs).resolve_left (by omega)
    exact .inr (Nat.sub_ne_zero_of_lt hlt)
  · exact .inl hs

/-- The SETTLING bank lost its last write and moves on. -/
theorem portReset_of_settled (hinv : JournalInv s) {i : BankId} (hs : (bank s i).state = .settling)
    (h1 : 1 ≤ discards s i) (hle : (bank s i).settle ≤ discards s i) :
    portReset (setPortRstN false s) = drainIfSettled i (resetLeft s) := by
  obtain ⟨e, he⟩ := List.exists_mem_of_length_pos h1
  obtain ⟨hmem, hset⟩ := List.mem_filter.1 he
  rw [portReset_eq hinv]
  refine foldl_drainAfter_of_settled (hinv.keeps (resetLeft_keeps s)) ?_ ?_ ⟨e, hmem, ?_⟩ <;> rw [bank_resetLeft]
  · exact hs
  · exact Nat.sub_eq_zero_of_le hle
  · exact hset

theorem portReset_cases (hinv : JournalInv s) :
    portReset (setPortRstN false s) = resetLeft s ∨
      ∃ i, portReset (setPortRstN false s) = drainIfSettled i (resetLeft s) := by
  by_cases h : ∀ i, (bank s i).state = .settling → discards s i = 0 ∨ discards s i < (bank s i).settle
  · exact .inl (portReset_of_quiet hinv h)
  · push Not at h
    obtain ⟨i, hs, h0, hle⟩ := h
    exact .inr ⟨i, portReset_of_settled hinv hs (by omega) hle⟩

/-! ## What the reset leaves -/

theorem closeIfResolved_queues (i : BankId) (s : State) :
    (closeIfResolved i s).dp.passThrough = s.dp.passThrough ∧ (closeIfResolved i s).dp.tags = s.dp.tags := by
  rcases closeIfResolved_cases i s with h | ⟨-, -, h⟩ <;> rw [h]
  · exact ⟨rfl, rfl⟩
  · obtain ⟨bs, -, hdp⟩ := requestEnd_dp (bank s i).epoch (setBank i { bank s i with state := .closing } s)
    rw [becomeClosing, hdp]
    simp

theorem drainIfSettled_queues (i : BankId) (s : State) :
    (drainIfSettled i s).dp.passThrough = s.dp.passThrough ∧ (drainIfSettled i s).dp.tags = s.dp.tags ∧
      (drainIfSettled i s).ce.holdQueue = s.ce.holdQueue ∧ (drainIfSettled i s).ce.holdLimit = s.ce.holdLimit := by
  rcases drainIfSettled_cases i s with h | ⟨-, -, h⟩ <;> rw [h]
  · exact ⟨rfl, rfl, rfl, rfl⟩
  · simp [closeIfResolved_queues]

theorem portReset_drains (hinv : JournalInv s) (j : BankId) :
    Drains (resetBank s j) (bank (portReset (setPortRstN false s)) j) := by
  rw [← bank_resetLeft]
  rcases portReset_cases hinv with h | ⟨i, h⟩ <;> rw [h]
  · exact .refl _
  · exact drainIfSettled_drains i _ j

theorem portReset_leaves (hinv : JournalInv s) :
    (portReset (setPortRstN false s)).pins = { s.pins with portRstN := false } ∧
      (portReset (setPortRstN false s)).ce.holdQueue = [] ∧
      (portReset (setPortRstN false s)).ce.holdLimit = s.ce.holdLimit ∧
      (portReset (setPortRstN false s)).up = (resetLeft s).up ∧
      (portReset (setPortRstN false s)).dp.passThrough = s.dp.passThrough ∧
      (portReset (setPortRstN false s)).dp.tags = s.dp.tags ∧ (portReset (setPortRstN false s)).out = s.out ∧
      (portReset (setPortRstN false s)).fq = s.fq ∧ (portReset (setPortRstN false s)).wu = s.wu ∧
      (portReset (setPortRstN false s)).mp = s.mp ∧ (portReset (setPortRstN false s)).ec = (resetLeft s).ec := by
  rcases portReset_cases hinv with h | ⟨i, h⟩ <;> rw [h]
  · exact ⟨rfl, rfl, rfl, rfl, rfl, rfl, rfl, rfl, rfl, rfl, rfl⟩
  · simp [drainIfSettled_queues, resetLeft]

/-! ## The obligation's own words -/

theorem exec_portRstNAssert (hr : s.pins.rstN = true) (hp : s.pins.portRstN = true) :
    exec .portRstNAssert s = .next (raiseRingLow s (portReset (setPortRstN false s))) := by
  show Host.Outcome.next (assertPortReset s) = _
  simp [assertPortReset, hr, hp]

theorem raiseRingLow_resetLeft (s : State) : raiseRingLow s (resetLeft s) = resetLeft s := raiseRingLow_of_rw rfl

theorem holdsOn_epoch (hinv : JournalInv s) (i : BankId) (g : Nat) (hs : List HoldEntry) :
    holdsOn s i g hs = hs.filter fun h => h.waitsOn.any fun w => w.1 = g ∧ (bank s i).epoch = some w.2 := by
  simp only [holdsOn, hinv.bankOfEpoch_iff]

theorem discards_eq (s : State) (i : BankId) :
    discards s i = (s.up.tracker.filter fun e =>
      e.phase = .held ∧ e.stream.direction = .write ∧ e.epochTag ≠ none ∧ e.epochTag = (bank s i).epoch).length := by
  rw [discards, dropped, List.filter_filter]
  congr 2
  funext e
  simp [settlesIn, Bool.and_comm]

theorem discards_of_epoch {i : BankId} {x : Nat} (hx : (bank s i).epoch = some x) :
    discards s i = (s.up.tracker.filter fun e =>
      e.phase = .held ∧ e.stream.direction = .write ∧ e.epochTag = some x).length := by
  rw [discards_eq, hx]
  congr 2
  funext e
  have hsome : (e.epochTag ≠ none ∧ e.epochTag = some x) ↔ e.epochTag = some x :=
    ⟨And.right, fun h => ⟨by simp [h], h⟩⟩
  simp only [hsome]

theorem countsTransparent_eq (s : State) :
    ((dropped s).filter countsTransparent).length = (s.up.tracker.filter fun e =>
      e.phase = .held ∧ e.stream.direction = .write ∧ e.epochTag = none ∧ e.mode = .transparent).length := by
  rw [dropped, List.filter_filter]
  congr 2
  funext e
  simp [countsTransparent, Bool.and_comm]

/-! ## The bank that moves on -/

theorem portReset_of_empty (hinv : JournalInv s) {i : BankId} (hs : (bank s i).state = .settling)
    (h1 : 1 ≤ discards s i) (hle : (bank s i).settle ≤ discards s i) (hd : (bank s i).dirty = []) :
    portReset (setPortRstN false s) =
      requestEnd (bank s i).epoch (setBank i { resetBank s i with state := .closing } (resetLeft s)) := by
  have hleft := hinv.keeps (resetLeft_keeps s)
  rw [portReset_of_settled hinv hs h1 hle, drainIfSettled_of_empty, bank_resetLeft]
  · rfl
  · exact hleft.other_not_draining (by rw [bank_resetLeft]; simp [resetBank, hs, BankState.isCut])
  · rw [bank_resetLeft]
    exact hs
  · rw [bank_resetLeft]
    exact Nat.sub_eq_zero_of_le hle
  · rw [bank_resetLeft]
    simp [resetBank, hd]

theorem portReset_of_pending (hinv : JournalInv s) {i : BankId} (hs : (bank s i).state = .settling)
    (h1 : 1 ≤ discards s i) (hle : (bank s i).settle ≤ discards s i) (hd : (bank s i).dirty ≠ [])
    (hp : ∀ d ∈ (bank s i).dirty, d.state = .pending) :
    portReset (setPortRstN false s) =
      startCopies (setBank i { resetBank s i with state := .draining } (resetLeft s)) := by
  rw [portReset_of_settled hinv hs h1 hle, drainIfSettled_of_pending, bank_resetLeft]
  · rw [bank_resetLeft]
    exact hs
  · rw [bank_resetLeft]
    exact Nat.sub_eq_zero_of_le hle
  · rw [bank_resetLeft]
    simp [resetBank, hd]
  · rw [bank_resetLeft]
    simpa [resetBank] using hp

theorem portReset_settles (hinv : JournalInv s) {i : BankId} (hs : (bank s i).state = .settling) :
    (discards s i = 0 ∨ discards s i < (bank s i).settle → (bank (portReset (setPortRstN false s)) i).state = .settling) ∧
      (1 ≤ discards s i → (bank s i).settle ≤ discards s i → (bank s i).dirty = [] →
        (bank (portReset (setPortRstN false s)) i).state = .closing) ∧
      (1 ≤ discards s i → (bank s i).settle ≤ discards s i → (bank s i).dirty ≠ [] →
        (∀ d ∈ (bank s i).dirty, d.state = .pending) → (bank (portReset (setPortRstN false s)) i).state = .draining) := by
  refine ⟨fun h => ?_, fun h1 hle hd => ?_, fun h1 hle hd hp => ?_⟩
  · rw [portReset_of_quiet hinv fun j hj => ?_, bank_resetLeft]
    · exact hs
    · rcases BankId.eq_or_other i j with rfl | rfl
      · exact h
      · have hcut := hinv.other_not_cut (i := i) (by rw [hs]; rfl)
        rw [hj] at hcut
        cases hcut
  · rw [portReset_of_empty hinv hs h1 hle hd, bank_congr (s := requestEnd _ _)
      (t := setBank i { resetBank s i with state := .closing } (resetLeft s)) (by simp), bank_setBank]
  · rw [portReset_of_pending hinv hs h1 hle hd hp, (startCopies_banks _ i).state, bank_setBank]

end Reset

/-- Settles O36: the discards give `resetLeft`, and `portReset_of_quiet`, `portReset_of_empty`, `portReset_of_pending` say
whether the SETTLING bank moves on from there. -/
theorem portResetRule : Obligations.PortResetRule := by
  refine fun s t => ⟨fun h => ?_, fun h => ?_, fun hr hp => ?_, fun hr hp => ?_, fun hr hp => ?_, fun hr hp hinv _ =>
    ⟨fun setFlag hq hheld hflag => ?_, fun ht => ?_, ?_⟩⟩
  · show Host.Outcome.next (assertPortReset s) = _
    simp [assertPortReset, h]
  · show Host.Outcome.next (deassertPortReset s) = _
    simp [deassertPortReset, h]
  · show Host.Outcome.next (assertPortReset s) = _
    simp [assertPortReset, hr, hp, setPortRstN]
  · show Host.Outcome.next (deassertPortReset s) = _
    simp [deassertPortReset, hr, hp, setPortRstN]
  · show Host.Outcome.next (deassertPortReset s) = _
    simp [deassertPortReset, hr, hp, setPortRstN]
  · have hnone : dropped s = [] := by simpa [dropped] using hheld
    have hbank (i : BankId) : resetBank s i = setFlag (bank s i) := by
      rw [hflag]
      by_cases ho : (bank s i).state = .opened <;> simp [resetBank, hnone, hq, holdsOn, ho]
    rw [exec_portRstNAssert hr hp, portReset_of_quiet hinv fun i _ => .inl (by simp [discards, hnone]),
      raiseRingLow_resetLeft, resetLeft, hbank, hbank, hnone, ← hq]
    rfl
  · rw [exec_portRstNAssert hr hp] at ht
    obtain rfl := Host.Outcome.next.inj ht
    obtain ⟨hpins, hqueue, hlimit, hup, hpass, htags, hout, hfq, hwu, hmp, hec⟩ := portReset_leaves hinv
    have hbank (i : BankId) : bank (raiseRingLow s (portReset (setPortRstN false s))) i =
        bank (portReset (setPortRstN false s)) i := bank_congr (by simp) i
    simp only [raiseRingLow_frame, hpins, hqueue, hlimit, hup, hpass, htags, hout, hfq, hwu, hmp, hec, hbank, true_and]
    refine ⟨rfl, rfl, rfl, rfl, rfl, fun i => ?_⟩
    have hdrains := portReset_drains hinv i
    refine ⟨?_, ?_, hdrains.granules.trans ?_, ?_, hdrains.helds.trans ?_,
      fun hs => hdrains.state.resolve_right fun h => hs h.1, fun x discarded hx hd => ⟨?_, fun hs => ?_⟩⟩
    · rw [hdrains.same]; rfl
    · rw [hdrains.same]; rfl
    · simp [resetBank]
    · rw [hdrains.same]; simp [resetBank]
    · simp [resetBank, holdsOn_epoch hinv]
    · rw [hdrains.same, hd, ← discards_of_epoch hx]; rfl
    · rw [hd, ← discards_of_epoch hx]
      exact portReset_settles hinv hs
  · intro n counted left u hn hcounted hleft hu
    obtain rfl : n = discards s := funext fun i => (hn i).trans (discards_eq s i).symm
    obtain rfl : left = resetBank s := by
      funext i
      rw [hleft]
      simp only [resetBank, holdsOn_epoch hinv]
      rfl
    obtain rfl : u = resetLeft s := by
      rw [hu, hcounted, ← countsTransparent_eq]
      rfl
    simp only [exec_portRstNAssert hr hp]
    refine ⟨fun h => ?_, fun i hs h1 hle => ⟨?_, fun hd => ?_, fun hd hpend => ?_⟩⟩
    · rw [portReset_of_quiet hinv h, raiseRingLow_resetLeft]
    · rw [portReset_of_settled hinv hs h1 hle, drainIfSettled_of_settled, bank_resetLeft]
      · rw [bank_resetLeft]
        exact hs
      · rw [bank_resetLeft]
        exact Nat.sub_eq_zero_of_le hle
    · rw [portReset_of_empty hinv hs h1 hle hd]
    · rw [portReset_of_pending hinv hs h1 hle hd hpend]

end Sys2Proof.Safety


/-! # The open bank and the free one -/

namespace Sys2Proof.Safety

open Sys2Proof.Machine

section Found

variable {s : State} {i : BankId}

/-- The OPEN bank is found when the other one is not OPEN. -/
theorem openBank_eq_of_other (hi : (bank s i).state = .opened) (ho : (bank s i.other).state ≠ .opened) : openBank s = some i :=
  findBank_of_unique (by simpa using hi) (by simpa using ho)

/-- The OPEN bank found beside a bank that is not FREE has such a bank beside it, whichever of the two it is. -/
theorem openBank_beside (hi : (bank s i).state = .opened) (ho : (bank s i.other).state ≠ .free) :
    ∃ j, openBank s = some j ∧ (bank s j.other).state ≠ .free := by
  cases hj : openBank s with
  | none => exact absurd hi (by simpa using findBank_none.1 hj i)
  | some j =>
    refine ⟨j, rfl, ?_⟩
    rcases BankId.eq_or_other i j with rfl | rfl
    · exact ho
    · simp [hi]

/-- Bank A if it is FREE, otherwise the FREE bank (R53). -/
theorem freeBankId_eq (h : s.ju.bankA.state = .free ∨ s.ju.bankB.state = .free) :
    freeBankId s = some (if s.ju.bankA.state = .free then .a else .b) := by
  by_cases ha : s.ju.bankA.state = .free
  · simp [freeBankId, findBank, ha]
  · simp [freeBankId, findBank, ha, h.resolve_left ha]

theorem freeBankId_none (ha : s.ju.bankA.state ≠ .free) (hb : s.ju.bankB.state ≠ .free) : freeBankId s = none := by
  simp [freeBankId, findBank, ha, hb]

end Found

end Sys2Proof.Safety


/-! # An accepted cut (R28, R29, R44, R56, R171) -/

namespace Sys2Proof.Safety

open Sys2Proof.Machine

theorem counterSnapshot_eq (epoch : Option Nat) (c : Counter) :
    c.snapshot epoch = if c.enabled = true ∧ c.scope = .epoch then
      { c with snapValue := c.value, snapWrap := c.wrap, snapEpoch := epoch, value := 0, wrap := false } else c := by
  simp [Counter.snapshot]

/-- The bank of a cut epoch, SETTLING, with the POWER flag for a cut by a power warning (R28, R44). -/
def settlingBank (source : CutSource) (b : Bank) : Bank :=
  { b with state := .settling, power := if source = .power then true else b.power }

/-- The bridge after a cut of bank i, before the bank drains. -/
def afterCut (i : BankId) (source : CutSource) (s : State) : State :=
  { s with
    ju := (setBank i (settlingBank source (bank s i))
      (if source = .stop then s else openWith i.other ((bank s i).epoch.getD 0 + 1) s)).ju
    ec := { s.ec with
      journal := if source = .stop then .off else s.ec.journal
      powerCutPending := if source = .command then s.ec.powerCutPending else false }
    au := { s.au with pending := if source = .power then s.au.pending ||| 0x80#8 else s.au.pending }
    tm := { counters := s.tm.counters.map (Counter.snapshot (bank s i).epoch) } }

theorem bank_afterCut (i : BankId) (source : CutSource) (s : State) :
    bank (afterCut i source s) i = settlingBank source (bank s i) :=
  (bank_congr rfl i).trans (bank_setBank i _ _)

/-- The order of the effects of R56 does not matter: together they are `afterCut`. -/
theorem acceptCut_eq_drain (i : BankId) (source : CutSource) (s : State) :
    acceptCut i source s = drainIfSettled i (afterCut i source s) := by
  have hpower : ((bank s i).power || decide (source = .power)) = if source = .power then true else (bank s i).power := by
    by_cases h : source = .power <;> simp [h]
  simp only [acceptCut, hpower]
  congr 1
  cases source <;> cases i <;> rfl

theorem acceptCut_of_unsettled {i : BankId} {s : State} (h : 0 < (bank s i).settle) (source : CutSource) :
    acceptCut i source s = afterCut i source s := by
  rw [acceptCut_eq_drain]
  refine drainIfSettled_of_not (.inr ?_)
  rw [bank_afterCut]
  exact h.ne'

/-- A cut with nothing outstanding drains in the same event (R29). -/
theorem acceptCut_of_settled {i : BankId} {s : State} (h : (bank s i).settle = 0) (source : CutSource) :
    (bank (acceptCut i source s) i).state = .draining ∨ (bank (acceptCut i source s) i).state = .closing := by
  have hcut := bank_afterCut i source s
  have hsettling : (bank (afterCut i source s) i).state = .settling := by rw [hcut]; rfl
  have hsettle : (bank (afterCut i source s) i).settle = 0 := by rw [hcut]; exact h
  rw [acceptCut_eq_drain]
  rcases (drainIfSettled_drains i (afterCut i source s) i).state with hstays | ⟨-, hmoves⟩
  · exact absurd (hstays.trans hsettling) (drainIfSettled_left hsettling hsettle)
  · exact hmoves

/-- Settles O24: the state in the statement is `afterCut`, and the cut bank's settle count says whether it drains. -/
theorem acceptedCut : Obligations.AcceptedCut := by
  rintro s i e source b o u - he rfl rfl hu
  obtain rfl : u = afterCut i source s := by
    simp only [hu, afterCut, settlingBank, openWith, he, Option.getD_some, funext (counterSnapshot_eq (some e))]
  exact ⟨acceptCut_eq_drain i source s, fun h => acceptCut_of_unsettled h source, fun h => acceptCut_of_settled h source⟩

end Sys2Proof.Safety


/-! # The close of a cut epoch (R63, R66, R67, R116, R117) -/

namespace Sys2Proof.Safety

open Sys2Proof.Machine

/-- Table 3.8.2: what each status stands for fixes the status of an epoch. -/
theorem eq_epochStatus {damage : Option DamageReason} {spill : List SpillEntry} {st : EpochStatus}
    (hcomplete : damage = none → spill = [] → st = .complete) (hspilled : damage = none → spill ≠ [] → st = .spilled)
    (habandoned : damage = some .abandon → st = .abandoned)
    (hdamaged : ∀ d, damage = some d → d ≠ .abandon → st = .damaged) : st = epochStatus damage spill := by
  cases damage with
  | none =>
    by_cases h : spill = []
    · simp [epochStatus, h, hcomplete rfl h]
    · simp [epochStatus, h, hspilled rfl h]
  | some d =>
    cases d with
    | abandon => exact habandoned rfl
    | holdTimeout | copyTimeout | copyError | recordWrite => exact hdamaged _ rfl (by decide)

/-- The bridge after bank i has closed, before a held power cut (steps 1 to 4 of R67). -/
def afterClose (i : BankId) (s : State) : State :=
  setBank i freeBank { s with
    ec := { s.ec with log := (closedRecord (bank s i) s.rw.account :: s.ec.log).take 16 }
    au := { s.au with pending := s.au.pending ||| 0x01#8 }
    rw := { s.rw with account := emptyAccount } }

theorem closeEpoch_of_closing {i : BankId} {s : State} (hinv : JournalInv s) (h : (bank s i).state = .closing) :
    closeEpoch s = heldPowerCut (afterClose i s) := by
  have hcut : cutBank s = some i := hinv.cutBank_eq (by rw [h]; rfl)
  simp only [closeEpoch, hcut, h, if_true]
  congr 1
  cases i <;> rfl

theorem heldPowerCut_of_none {s : State} (h : s.ec.powerCutPending = false) : heldPowerCut s = s := by
  simp [heldPowerCut, h]

theorem heldPowerCut_of_open {i : BankId} {s : State} {e : Nat} (hp : s.ec.powerCutPending = true)
    (hi : openBank s = some i) (he : (bank s i).epoch = some e) :
    heldPowerCut s = if e < 4294967295 then acceptCut i .power s else setPowerCutPending false s := by
  simp [heldPowerCut, hp, hi, he, Config.lastEpoch]

/-- Beside a CLOSING bank a power cut is held for the OPEN one (R63). -/
theorem JournalInv.other_opened {i : BankId} {s : State} (hinv : JournalInv s) (h : (bank s i).state = .closing)
    (hp : s.ec.powerCutPending = true) : (bank s i.other).state = .opened := by
  have hs := hinv.shape i
  exact (hs.openIffRecording.1 (hs.heldCut hp).1).resolve_left (by simp [h])

section Closed

variable {s : State} {i : BankId}

theorem afterClose_held (s : State) (i : BankId) : (afterClose i s).ec.powerCutPending = s.ec.powerCutPending := by
  simp [afterClose]

theorem bank_other_afterClose (s : State) (i : BankId) : bank (afterClose i s) i.other = bank s i.other :=
  (bank_other_setBank i _ _).trans (bank_congr rfl _)

theorem openBank_afterClose (h : (bank s i.other).state = .opened) : openBank (afterClose i s) = some i.other := by
  refine openBank_eq_of_other ?_ ?_
  · rw [bank_other_afterClose, h]
  · rw [BankId.other_other, afterClose, bank_setBank]
    simp [freeBank]

end Closed

/-- Settles O27: the close itself is `afterClose`, and the epoch of the other bank, OPEN behind a held cut, says what becomes of
that cut. -/
theorem epochClose : Obligations.EpochClose := by
  intro s i e r u hinv hclosing he hepoch hdamage hlisted hcopied hskipped hurgent hpower hreset hspill hfirst hend
    hcomplete hspilled habandoned hdamaged hu
  have hstatus := eq_epochStatus hcomplete hspilled habandoned hdamaged
  obtain rfl : r = closedRecord (bank s i) s.rw.account := by
    cases r
    simp_all [closedRecord]
  obtain rfl : u = afterClose i s := hu
  have hheld {n : Nat} (hp : s.ec.powerCutPending = true) (hn : (bank s i.other).epoch = some n) :
      closeEpoch s =
        if n < 4294967295 then acceptCut i.other .power (afterClose i s) else setPowerCutPending false (afterClose i s) := by
    rw [closeEpoch_of_closing hinv hclosing]
    refine heldPowerCut_of_open ((afterClose_held s i).trans hp) (openBank_afterClose (hinv.other_opened hclosing hp)) ?_
    rw [bank_other_afterClose, hn]
  refine ⟨fun hp => ?_, fun n hp hn hlt => ?_, fun hp hn => ?_⟩
  · rw [closeEpoch_of_closing hinv hclosing, heldPowerCut_of_none ((afterClose_held s i).trans hp)]
  · rw [hheld hp hn, if_pos hlt]
  · rw [hheld hp hn, if_neg (Nat.lt_irrefl _)]
    rfl

end Sys2Proof.Safety


/-! # JOURNAL_START, CUT and JOURNAL_STOP (R52, R53, R55, R58) -/

namespace Sys2Proof.Safety

open Sys2Proof.Machine

section Commands

variable {s : State} {i : BankId} {n : Nat}

/-! ## JOURNAL_START -/

theorem epochAboveAll_iff (hn : 1 ≤ n) :
    epochAboveAll n s = true ↔
      (∀ e, s.ju.bankA.epoch = some e ∨ s.ju.bankB.epoch = some e → e < n) ∧ ∀ r ∈ s.ec.log, r.epoch < n := by
  have hbank (x : Option Nat) : x.getD 0 < n ↔ ∀ e, x = some e → e < n := by
    cases x with
    | none => simpa using Nat.lt_of_succ_le hn
    | some e => simp
  simp [epochAboveAll, hbank, or_imp, forall_and]

theorem journalStart_transparent (hn : 1 ≤ n) (hm : s.wu.mode = .transparent) :
    journalStart n s = refuse .wrongMode s := by
  simp [journalStart, hm, Nat.one_le_iff_ne_zero.1 hn]

theorem journalStart_noRing (hn : 1 ≤ n) (hm : s.wu.mode = .guarded) (hp : s.rw.place = none) :
    journalStart n s = refuse .noRing s := by
  simp [journalStart, hm, hp, Nat.one_le_iff_ne_zero.1 hn]

theorem journalStart_busy (hn : 1 ≤ n) (hm : s.wu.mode = .guarded) (hp : s.rw.place ≠ none)
    (hb : freeBankId s = none) : journalStart n s = refuse .busy s := by
  simp [journalStart, hm, hp, hb, Nat.one_le_iff_ne_zero.1 hn]

/-- The last three checks of R52, once a FREE bank is found. -/
theorem journalStart_of_free (hn : 1 ≤ n) (hm : s.wu.mode = .guarded) (hp : s.rw.place ≠ none)
    (hi : freeBankId s = some i) :
    journalStart n s =
      if s.ec.journal = .recording ∨ 0 < s.ec.transparentWrites then refuse .notIdle s
      else if epochAboveAll n s = true then taken (bankEpochBytes i n) (setJournal .recording (openWith i n s))
      else refuse .badEpoch s := by
  cases hall : epochAboveAll n s <;> by_cases hj : s.ec.journal = .recording <;>
    simp [journalStart, hm, hp, hi, hj, hall, Nat.one_le_iff_ne_zero.1 hn]

theorem setJournal_openWith (i : BankId) (n : Nat) (s : State) :
    setJournal .recording (openWith i n s) =
      setBank i { freeBank with state := .opened, epoch := some n } { s with ec := { s.ec with journal := .recording } } := by
  cases i <;> rfl

/-! ## CUT and JOURNAL_STOP -/

theorem cutCommand_off (h : s.ec.journal = .off) : cutCommand s = refuse .notRecording s := by simp [cutCommand, h]

theorem stopCommand_off (h : s.ec.journal = .off) : stopCommand s = refuse .notRecording s := by simp [stopCommand, h]

theorem cutCommand_busy (hj : s.ec.journal = .recording) (hi : openBank s = some i) (ho : (bank s i.other).state ≠ .free) :
    cutCommand s = refuse .busy s := by
  simp [cutCommand, hj, hi, ho]

theorem stopCommand_busy (hj : s.ec.journal = .recording) (hi : openBank s = some i) (ho : (bank s i.other).state ≠ .free) :
    stopCommand s = refuse .busy s := by
  simp [stopCommand, hj, hi, ho]

/-- The last check of R55. -/
theorem cutCommand_of_free (hj : s.ec.journal = .recording) (hi : openBank s = some i)
    (ho : (bank s i.other).state = .free) (he : (bank s i).epoch = some n) :
    cutCommand s =
      if 4294967295 ≤ n then refuse .epochLimit s
      else taken (bankEpochBytes i n ++ bankEpochBytes i.other (n + 1)) (acceptCut i .command s) := by
  simp [cutCommand, hj, hi, ho, he, Config.lastEpoch]

theorem stopCommand_of_free (hj : s.ec.journal = .recording) (hi : openBank s = some i)
    (ho : (bank s i.other).state = .free) (he : (bank s i).epoch = some n) :
    stopCommand s = taken (bankEpochBytes i n) (acceptCut i .stop s) := by
  simp [stopCommand, hj, hi, ho, he]

end Commands

/-- A command whose owning block takes it is answered OK, with RING_LOW judged over the event (R112). -/
theorem answers_of_body_ringLow {c : Instr} {body : State → Answer × State} {s t : State} {data : List Byte}
    (hc : exec c s = execute c body s) (hr : s.pins.rstN = true) (hb : body s = taken data t) :
    Answers c .ok data s (raiseRingLow s t) := by
  rw [Answers, hc, execute_high hr, hb]
  rfl

/-- Settles O22: one lemma for each check of R52 in turn, and `journalStart_of_free` for the last three. -/
theorem journalStartRule : Obligations.JournalStartRule := by
  rintro s n c rfl hr
  have hrefuse {st : Status} : journalStart n s = refuse st s → Refuses (.journalStart n) st s := refuses_of_body rfl hr
  refine ⟨?_, fun hn hm => hrefuse (journalStart_transparent hn hm), fun hn hm hp => hrefuse (journalStart_noRing hn hm hp),
    fun hn hm hp => ⟨fun ha hb => hrefuse (journalStart_busy hn hm hp (freeBankId_none ha hb)), fun hfree => ?_⟩⟩
  · rintro rfl
    exact hrefuse rfl
  have hlast := journalStart_of_free hn hm hp (freeBankId_eq hfree)
  refine ⟨fun hj => hrefuse (hlast.trans (if_pos (.inl hj))), fun _ ht => hrefuse (hlast.trans (if_pos (.inr ht))),
    fun hj ht => ?_⟩
  rw [if_neg (by simp [hj, ht])] at hlast
  refine ⟨fun hbad => hrefuse (hlast.trans (if_neg fun habove => ?_)), fun hbanks hlog => ?_⟩
  · obtain ⟨hbanks, hlog⟩ := (epochAboveAll_iff hn).1 habove
    rcases hbad with ⟨e, he, hle⟩ | ⟨r, hmem, hle⟩
    · exact (hbanks e he).not_ge hle
    · exact (hlog r hmem).not_ge hle
  · rintro i opened rfl rfl
    rw [if_pos ((epochAboveAll_iff hn).2 ⟨hbanks, hlog⟩), setJournal_openWith] at hlast
    exact answers_of_body rfl hr hlast (by simp)

/-- Settles O23: the checks of R55 and R58 in turn for the OPEN bank that the command finds. -/
theorem cutAndStopRule : Obligations.CutAndStopRule := by
  refine fun s hr => ⟨fun hj => ⟨refuses_of_body rfl hr (cutCommand_off hj), refuses_of_body rfl hr (stopCommand_off hj)⟩,
    fun i e hj hi he => ?_⟩
  have hfound (ho : (bank s i.other).state = .free) : openBank s = some i := openBank_eq_of_other hi (by simp [ho])
  refine ⟨fun ho => ?_, fun ho hlimit => ?_, fun ho hlt => ?_, fun ho => ?_⟩
  · obtain ⟨j, hj', ho'⟩ := openBank_beside hi ho
    exact ⟨refuses_of_body rfl hr (cutCommand_busy hj hj' ho'), refuses_of_body rfl hr (stopCommand_busy hj hj' ho')⟩
  · exact refuses_of_body rfl hr ((cutCommand_of_free hj (hfound ho) ho he).trans (if_pos hlimit.ge))
  · refine answers_of_body_ringLow rfl hr ?_
    rw [cutCommand_of_free hj (hfound ho) ho he, if_neg hlt.not_ge]
    simp [bankEpochBytes]
  · exact answers_of_body_ringLow rfl hr (stopCommand_of_free hj (hfound ho) ho he)

end Sys2Proof.Safety


/-! # PWRWARN (R62, Table 3.7.1) -/

namespace Sys2Proof.Safety

open Sys2Proof.Machine

section Warning

variable {s : State} {i : BankId} {e : Nat}

theorem powerWarning_off (h : s.ec.journal = .off) : powerWarning s = s := by simp [powerWarning, h]

/-- A second warning changes nothing while a cut is held. -/
theorem powerWarning_held (h : s.ec.powerCutPending = true) : powerWarning s = s := by
  unfold powerWarning
  split
  · exact if_pos h
  · rfl

theorem powerWarning_free (hj : s.ec.journal = .recording) (hp : s.ec.powerCutPending = false)
    (hi : openBank s = some i) (ho : (bank s i.other).state = .free) (he : (bank s i).epoch = some e) :
    powerWarning s = if e < 4294967295 then acceptCut i .power s else s := by
  simp [powerWarning, hj, hp, hi, ho, he, Config.lastEpoch]

theorem powerWarning_cut (hj : s.ec.journal = .recording) (hp : s.ec.powerCutPending = false)
    (hi : openBank s = some i) (ho : (bank s i.other).state.isCut = true) :
    powerWarning s = setPowerCutPending true s := by
  simp [powerWarning, hj, hp, hi, (BankState.isCut_iff.1 ho).1]

theorem exec_pwrwarnAssert_of_high (hw : s.pins.pwrwarn = true) : exec .pwrwarnAssert s = .next s := by
  show Host.Outcome.next (assertPwrwarn s) = _
  simp [assertPwrwarn, hw]

theorem exec_pwrwarnAssert_of_low (hr : s.pins.rstN = true) (hw : s.pins.pwrwarn = false) :
    exec .pwrwarnAssert s = .next (raiseRingLow s (powerWarning (setPwrwarn true s))) := by
  show Host.Outcome.next (assertPwrwarn s) = _
  simp [assertPwrwarn, hr, hw, setPwrwarn]

/-- A warning that leaves the Ring Writer alone raises no RING_LOW. -/
theorem exec_pwrwarnAssert_of_rw {t : State} (hr : s.pins.rstN = true) (hw : s.pins.pwrwarn = false)
    (ht : powerWarning (setPwrwarn true s) = t) (hrw : t.rw = s.rw) : exec .pwrwarnAssert s = .next t := by
  rw [exec_pwrwarnAssert_of_low hr hw, ht, raiseRingLow_of_rw hrw]

end Warning

/-- Settles O25: the rows of Table 3.7.1 (`powerWarning_off`, `powerWarning_held`, `powerWarning_free`, `powerWarning_cut`), read
with the pin already high. -/
theorem powerWarningRule : Obligations.PowerWarning := by
  intro s u hr hu
  obtain rfl : u = setPwrwarn true s := hu
  refine ⟨exec_pwrwarnAssert_of_high, rfl, fun hw =>
    ⟨fun hj => exec_pwrwarnAssert_of_rw hr hw (powerWarning_off hj) rfl, fun i e hj hi he => ?_⟩⟩
  have hbank (k : BankId) : bank (setPwrwarn true s) k = bank s k := bank_congr rfl k
  have hopen (ho : (bank s i.other).state ≠ .opened) : openBank (setPwrwarn true s) = some i :=
    openBank_eq_of_other (by rw [hbank, hi]) (by rwa [hbank])
  have hfree (hp : s.ec.powerCutPending = false) (ho : (bank s i.other).state = .free) :
      powerWarning (setPwrwarn true s) =
        if e < 4294967295 then acceptCut i .power (setPwrwarn true s) else setPwrwarn true s :=
    powerWarning_free hj hp (hopen (by simp [ho])) (by rw [hbank, ho]) (by rw [hbank, he])
  refine ⟨fun hp => exec_pwrwarnAssert_of_rw hr hw (powerWarning_held hp) rfl, fun hp ho hlt => ?_, fun hp ho hlimit => ?_,
    fun hp ho => ?_⟩
  · rw [exec_pwrwarnAssert_of_low hr hw, hfree hp ho, if_pos hlt]
  · exact exec_pwrwarnAssert_of_rw hr hw ((hfree hp ho).trans (if_neg hlimit.not_lt)) rfl
  · have hcut := powerWarning_cut (s := setPwrwarn true s) hj hp (hopen (BankState.isCut_iff.1 ho).2) (by rw [hbank, ho])
    exact exec_pwrwarnAssert_of_rw hr hw hcut rfl

end Sys2Proof.Safety


/-! # The walk of a release scan that releases nothing (R78) -/

namespace Sys2Proof.Safety

open Sys2Proof.Machine

/-- A release scan of the queue releases nothing. -/
def Stays (ready : HoldEntry → Bool) (q : List HoldEntry) : Prop := (scanHolds ready [] q).2 = []

section Scan

variable {ready : HoldEntry → Bool} {q : List HoldEntry} {h : HoldEntry}

theorem scanHolds_kept_of_none (k : List HoldEntry) (hq : (scanHolds ready k q).2 = []) :
    (scanHolds ready k q).1 = k ++ q := by
  induction q generalizing k with
  | nil => simp [scanHolds]
  | cons x xs ih =>
    simp only [scanHolds] at hq ⊢
    split at hq
    · cases hq
    · rename_i hx
      rw [if_neg hx, ih _ hq, List.append_assoc, List.singleton_append]

theorem mem_scanHolds_kept (k : List HoldEntry) (hh : h ∈ (scanHolds ready k q).1) : h ∈ k ++ q := by
  induction q generalizing k with
  | nil => simpa [scanHolds] using hh
  | cons x xs ih =>
    simp only [scanHolds] at hh
    split at hh
    · have := ih k hh
      simp only [List.mem_append, List.mem_cons] at this ⊢
      tauto
    · simpa using ih _ hh

theorem scanHolds_congr {ready' : HoldEntry → Bool} (k : List HoldEntry) (hr : ∀ x ∈ q, ready x = ready' x) :
    scanHolds ready k q = scanHolds ready' k q := by
  induction q generalizing k with
  | nil => rfl
  | cons x xs ih =>
    have hxs : ∀ y ∈ xs, ready y = ready' y := fun y hy => hr y (List.mem_cons_of_mem x hy)
    simp only [scanHolds, hr x List.mem_cons_self, ih _ hxs]

/-- A change of the entries that leaves their streams and their readiness alone leaves the walk alone. -/
theorem scanHolds_map {f : HoldEntry → HoldEntry} (hs : ∀ x, (f x).stream = x.stream) (hr : ∀ x, ready (f x) = ready x)
    (k : List HoldEntry) :
    scanHolds ready (k.map f) (q.map f) = ((scanHolds ready k q).1.map f, (scanHolds ready k q).2.map f) := by
  induction q generalizing k with
  | nil => rfl
  | cons x xs ih =>
    have hall : ((k.map f).all fun y => decide (y.stream ≠ (f x).stream)) = k.all fun y => decide (y.stream ≠ x.stream) := by
      simp [List.all_map, Function.comp_def, hs]
    simp only [List.map_cons, scanHolds, hr, hall]
    split
    · rw [ih]
      rfl
    · rw [← ih (k ++ [x])]
      simp

theorem Stays.congr {ready' : HoldEntry → Bool} (hq : Stays ready q) (hr : ∀ x ∈ q, ready x = ready' x) : Stays ready' q := by
  rwa [Stays, ← scanHolds_congr [] hr]

theorem Stays.map {f : HoldEntry → HoldEntry} (hs : ∀ x, (f x).stream = x.stream) (hr : ∀ x, ready (f x) = ready x)
    (hq : Stays ready q) : Stays ready (q.map f) := by
  have hmap := scanHolds_map (q := q) hs hr []
  rw [List.map_nil] at hmap
  rw [Stays, hmap, hq]
  rfl

/-- The oldest entry has nothing before it, so it stays for its granule alone. -/
theorem Stays.head (hq : Stays ready (h :: q)) : ready h = false := by
  by_contra hr
  have hr' : ready h = true := by simpa using hr
  simp [Stays, scanHolds, hr'] at hq

/-- One entry more at the end stays for its granule, or behind an entry of its stream. -/
theorem Stays.append (hq : Stays ready q) (hh : ready h = false ∨ ∃ x ∈ q, x.stream = h.stream) :
    Stays ready (q ++ [h]) := by
  have hkept : (scanHolds ready [] q).1 = q := scanHolds_kept_of_none [] hq
  rw [Stays, scanHolds_append, hkept, if_neg]
  · exact hq
  · rcases hh with hr | ⟨x, hx, he⟩
    · simp [hr]
    · simp only [Bool.and_eq_true, List.all_eq_true, decide_eq_true_eq, not_and]
      exact fun _ hall => hall x hx he

/-- What a scan keeps, a second scan keeps. -/
theorem stays_scanHolds (ready : HoldEntry → Bool) (q : List HoldEntry) : Stays ready (scanHolds ready [] q).1 := by
  induction q using List.reverseRecOn with
  | nil => rfl
  | append_singleton xs x ih =>
    rw [scanHolds_append]
    split
    · exact ih
    · rename_i hx
      refine ih.append ?_
      rw [Bool.and_eq_true, not_and_or, Bool.not_eq_true, Bool.not_eq_true] at hx
      refine hx.imp_right fun hany => ?_
      simpa using hany

end Scan

end Sys2Proof.Safety

/-! # The Hold Queue beside the bank it waits on (R73, R78, R80) -/

namespace Sys2Proof.Safety

open Sys2Proof.Machine

/-- The granule condition of R78, read in one bank. -/
def readyIn (b : Bank) (h : HoldEntry) : Bool :=
  match h.waitsOn with
  | none => true
  | some w => (b.entryOf w.1).any fun d => !d.state.isWaiting

/-- Every OWN entry waits on a granule that the bank lists. -/
def ListsHolds (b : Bank) (q : List HoldEntry) : Prop :=
  ∀ h ∈ q, ∀ g e, h.waitsOn = some (g, e) → b.epoch = some e ∧ (b.entryOf g).isSome = true

/-- The queue is empty or waits on the granules of a bank that copies. -/
def Listed (s : State) : Prop :=
  s.ce.holdQueue = [] ∨ ∃ i, (bank s i).state.isCopyable = true ∧ ListsHolds (bank s i) s.ce.holdQueue

/-- The queue is empty or waits on a bank that copies, and nothing in it could be released. -/
def Held (s : State) : Prop :=
  s.ce.holdQueue = [] ∨ ∃ i, (bank s i).state.isCopyable = true ∧ ListsHolds (bank s i) s.ce.holdQueue ∧
    Stays (readyIn (bank s i)) s.ce.holdQueue

section Queue

variable {s t : State} {i : BankId}

theorem Held.listed (h : Held s) : Listed s := h.imp_right fun ⟨i, hi, hl, _⟩ => ⟨i, hi, hl⟩

/-- Epochs differ, so the bank of the epoch is the one that lists the granule. -/
theorem granuleResolved_eq (hinv : JournalInv s) {q : List HoldEntry} (hl : ListsHolds (bank s i) q) {h : HoldEntry}
    (hh : h ∈ q) : granuleResolved s h = readyIn (bank s i) h := by
  unfold granuleResolved readyIn
  cases hw : h.waitsOn with
  | none => rfl
  | some w =>
    obtain ⟨he, -⟩ := hl h hh w.1 w.2 hw
    simp only [hinv.bankOfEpoch_iff.2 he]
    cases (bank s i).entryOf w.1 <;> rfl

theorem JournalInv.holdBank_eq (hinv : JournalInv s) (hi : (bank s i).state.isCopyable = true) : holdBank s = some i := by
  refine findBank_of_unique hi ?_
  have hother := hinv.other_not_cut (BankState.isCut_of_isCopyable hi)
  cases hst : (bank s i.other).state <;> simp [hst, BankState.isCut, BankState.isCopyable] at hother ⊢

theorem holdInv_iff (hinv : JournalInv s) : HoldInv s ↔ Held s := by
  constructor
  · intro h
    cases hb : holdBank s with
    | none => exact .inl (h.emptyWithoutBank hb)
    | some i =>
      have hl : ListsHolds (bank s i) s.ce.holdQueue := by
        intro x hx g e hw
        obtain ⟨j, hj, hlisted⟩ := h.ownListed x hx g e hw
        rw [hb] at hj
        cases hj
        exact hlisted
      exact .inr ⟨i, holdBank_some hb, hl, Stays.congr h.nothingReleasable fun x hx => granuleResolved_eq hinv hl hx⟩
  · rintro (hq | ⟨i, hi, hl, hs⟩)
    · exact ⟨fun _ => hq, by simp [hq], by simp [hq, scanHolds]⟩
    · have hb := hinv.holdBank_eq hi
      exact ⟨fun hn => by simp [hb] at hn, fun x hx g e hw => ⟨i, hb, hl x hx g e hw⟩,
        Stays.congr hs fun x hx => (granuleResolved_eq hinv hl hx).symm⟩

end Queue

/-! ## What leaves the queue in order -/

/-- A bank with the epoch of another, that lists its granules and waits on the same of them. -/
structure SameWaits (b c : Bank) : Prop where
  epoch : c.epoch = b.epoch
  waiting : ∀ g, (c.entryOf g).map (fun d => d.state.isWaiting) = (b.entryOf g).map fun d => d.state.isWaiting

theorem SameWaits.refl (b : Bank) : SameWaits b b := ⟨rfl, fun _ => rfl⟩

theorem SameWaits.trans {b c d : Bank} (h : SameWaits b c) (k : SameWaits c d) : SameWaits b d :=
  ⟨k.epoch.trans h.epoch, fun g => (k.waiting g).trans (h.waiting g)⟩

/-- The dirty list may change entry by entry, so long as each keeps its granule and whether it waits. -/
theorem SameWaits.of_dirty {b c : Bank} (he : c.epoch = b.epoch)
    (hd : c.dirty.map (fun d => (d.granule, d.state.isWaiting)) = b.dirty.map fun d => (d.granule, d.state.isWaiting)) :
    SameWaits b c := by
  refine ⟨he, fun g => ?_⟩
  have hentry (x : Bank) : (x.entryOf g).map (fun d => d.state.isWaiting) =
      ((x.dirty.map fun d => (d.granule, d.state.isWaiting)).find? fun p => decide (p.1 = g)).map Prod.snd := by
    rw [List.find?_map, Option.map_map]
    rfl
  rw [hentry, hentry, hd]

theorem SameWaits.readyIn {b c : Bank} (h : SameWaits b c) (x : HoldEntry) : readyIn c x = readyIn b x := by
  have hany (o : Option DirtyEntry) :
      (o.any fun d => !d.state.isWaiting) = (o.map fun d => d.state.isWaiting).any fun w => !w := by cases o <;> rfl
  unfold Safety.readyIn
  cases x.waitsOn with
  | none => rfl
  | some w => simp only [hany, h.waiting]

theorem SameWaits.listsHolds {b c : Bank} (h : SameWaits b c) {q : List HoldEntry} (hl : ListsHolds b q) :
    ListsHolds c q := by
  intro x hx g e hw
  obtain ⟨he, hg⟩ := hl x hx g e hw
  refine ⟨h.epoch.trans he, ?_⟩
  rw [← Option.isSome_map (f := fun d : DirtyEntry => d.state.isWaiting), h.waiting, Option.isSome_map, hg]

/-- What every event but a hold, a release and the end of an entry leaves of the Hold Queue and of the bank that copies. -/
structure KeepsHolds (s t : State) : Prop where
  queue : t.ce.holdQueue = s.ce.holdQueue
  banks : ∀ i, (bank s i).state.isCopyable = true → (bank t i).state.isCopyable = true ∧ SameWaits (bank s i) (bank t i)

theorem KeepsHolds.refl (s : State) : KeepsHolds s s := ⟨rfl, fun _ hi => ⟨hi, .refl _⟩⟩

theorem KeepsHolds.trans {s t u : State} (h : KeepsHolds s t) (k : KeepsHolds t u) : KeepsHolds s u :=
  ⟨k.queue.trans h.queue, fun i hi =>
    ⟨(k.banks i (h.banks i hi).1).1, (h.banks i hi).2.trans (k.banks i (h.banks i hi).1).2⟩⟩

theorem KeepsHolds.of_frame {s t : State} (hj : t.ju = s.ju) (hq : t.ce.holdQueue = s.ce.holdQueue) : KeepsHolds s t :=
  ⟨hq, fun i hi => by rw [bank_congr hj]; exact ⟨hi, .refl _⟩⟩

theorem KeepsHolds.of_eq {s t : State} (h : t = s) : KeepsHolds s t := h ▸ .refl s

/-- A change of one bank, which still copies and waits on the same granules when it did. -/
theorem KeepsHolds.setBank {s : State} {i : BankId} {b : Bank}
    (h : (bank s i).state.isCopyable = true → b.state.isCopyable = true ∧ SameWaits (bank s i) b) :
    KeepsHolds s (setBank i b s) := by
  refine ⟨by simp, fun j hj => ?_⟩
  rcases BankId.eq_or_other i j with rfl | rfl
  · rw [bank_setBank]
    exact h hj
  · rw [bank_other_setBank]
    exact ⟨hj, .refl _⟩

theorem Held.keeps {s t : State} (h : Held s) (k : KeepsHolds s t) : Held t := by
  rcases h with hq | ⟨i, hi, hl, hs⟩
  · exact .inl (k.queue.trans hq)
  · obtain ⟨hi', hw⟩ := k.banks i hi
    refine .inr ⟨i, hi', ?_, ?_⟩ <;> rw [k.queue]
    · exact hw.listsHolds hl
    · exact hs.congr fun x _ => (hw.readyIn x).symm

theorem Held.of_frame {s t : State} (h : Held s) (hj : t.ju = s.ju) (hq : t.ce.holdQueue = s.ce.holdQueue) : Held t :=
  h.keeps (.of_frame hj hq)

theorem Held.of_empty {s : State} (h : s.ce.holdQueue = []) : Held s := .inl h

/-! ## Copies and the moves of a cut bank -/

theorem setEntry_sameWaits {b : Bank} {n : Nat} {st : EntryState} {u : Nat}
    (h : ∀ d, b.dirty[n]? = some d → d.state.isWaiting = st.isWaiting) :
    SameWaits b { b.setEntry n st with urgent := u } := by
  refine .of_dirty rfl (List.ext_getElem (by simp [Bank.setEntry]) fun m h1 h2 => ?_)
  simp only [Bank.setEntry, List.getElem_map, List.getElem_modify]
  split
  · rename_i hn
    have hm : m < b.dirty.length := by simpa using h2
    simp [h b.dirty[m] (by rw [hn, List.getElem?_eq_getElem hm])]
  · rfl

/-- The entry that a start chooses is PENDING (R83). -/
theorem chooseCopy_pending {b : Bank} {q : List HoldEntry} {n : Nat} {byHold : Bool} (h : chooseCopy b q = some (n, byHold)) :
    ∃ d, b.dirty[n]? = some d ∧ d.state = .pending := by
  have hindex {p : DirtyEntry → Bool} (hp : ∀ d, p d = true → d.state = .pending) (hn : b.dirty.findIdx? p = some n) :
      ∃ d, b.dirty[n]? = some d ∧ d.state = .pending := by
    obtain ⟨hlt, hd, -⟩ := List.findIdx?_eq_some_iff_getElem.1 hn
    exact ⟨_, List.getElem?_eq_getElem hlt, hp _ hd⟩
  unfold chooseCopy at h
  split at h
  · rename_i m hm
    cases h
    obtain ⟨x, -, hx⟩ := List.exists_of_findSome?_eq_some hm
    split at hx
    · split at hx
      · exact hindex (fun d hd => of_decide_eq_true (Bool.and_eq_true_iff.1 hd).2) hx
      · cases hx
    · cases hx
  · obtain ⟨m, hm, he⟩ := Option.map_eq_some_iff.1 h
    cases he
    exact hindex (fun d hd => of_decide_eq_true hd) hm

theorem startCopy_keepsHolds {i : BankId} {n : Nat} {byHold : Bool} {s : State} {q : List HoldEntry}
    (h : chooseCopy (bank s i) q = some (n, byHold)) : KeepsHolds s (startCopy i n byHold s) := by
  obtain ⟨d, hd, hp⟩ := chooseCopy_pending h
  obtain ⟨u, hju⟩ := startCopy_ju i n byHold s
  have hset : KeepsHolds s (setBank i { (bank s i).setEntry n .copying with urgent := u } s) :=
    .setBank fun hi => ⟨hi, setEntry_sameWaits fun x hx => by
      rw [hd] at hx
      cases hx
      rw [hp]
      rfl⟩
  exact hset.trans (.of_frame hju ((startCopy_ce i n byHold s).1.trans (by simp)))

theorem startCopies_keepsHolds (s : State) : KeepsHolds s (startCopies s) :=
  startCopies_induction (P := KeepsHolds s) (.refl s) fun _ _ _ _ h _ _ _ hc => h.trans (startCopy_keepsHolds hc)

/-- A bank with every entry resolved has no write left to hold, so it may leave the Hold Queue behind (R30, R80). -/
theorem closeIfResolved_held {s : State} (i : BankId) (hinv : JournalInv s) (h : Held s) : Held (closeIfResolved i s) := by
  rcases closeIfResolved_cases i s with he | ⟨hd, hr, -⟩
  · rw [he]
    exact h
  · refine .of_empty ?_
    rw [closeIfResolved_frame i s |>.2.2.2.2.1]
    rcases h with hq | ⟨j, hj, hl, hs⟩
    · exact hq
    · obtain rfl : j = i := by
        have hi := hinv.holdBank_eq (i := i) (by rw [hd]; rfl)
        exact Option.some.inj ((hinv.holdBank_eq hj).symm.trans hi)
      cases hq : s.ce.holdQueue with
      | nil => rfl
      | cons x xs =>
        rw [hq] at hl hs
        have hready := hs.head
        unfold readyIn at hready
        cases hw : x.waitsOn with
        | none => simp [hw] at hready
        | some w =>
          obtain ⟨-, hg⟩ := hl x List.mem_cons_self w.1 w.2 hw
          obtain ⟨d, hd⟩ := Option.isSome_iff_exists.1 hg
          simp [hw, hd, allResolved_iff.1 hr d (entryOf_some hd).1] at hready

theorem drainIfSettled_held {s : State} (i : BankId) (hinv : JournalInv s) (h : Held s) : Held (drainIfSettled i s) := by
  rcases drainIfSettled_cases i s with he | ⟨hs, -, he⟩ <;> rw [he]
  · exact h
  · have hmove : KeepsHolds s (setBank i { bank s i with state := .draining } s) := .setBank fun _ => ⟨rfl, rfl, fun _ => rfl⟩
    have hjournal : KeepsJournal s (setBank i { bank s i with state := .draining } s) :=
      .setBank (.of_cut (by rw [hs]; rfl) rfl rfl)
    exact closeIfResolved_held i (hinv.keeps (hjournal.trans (startCopies_keeps _)))
      (h.keeps (hmove.trans (startCopies_keepsHolds _)))

theorem leaveCount_keepsHolds (e : TrackerEntry) (s : State) : KeepsHolds s (leaveCount e s) := by
  rcases leaveCount_cases e s with h | ⟨t, -, h⟩ | h
  · exact .of_eq h
  · rcases countSettled_cases t s with ⟨-, hc⟩ | ⟨i, -, hc⟩
    · exact .of_eq (h.trans hc)
    · rw [h, hc]
      exact .setBank fun hi => ⟨hi, rfl, fun _ => rfl⟩
  · rw [h]
    exact .of_frame rfl rfl

theorem drainAfter_held {s : State} (e : TrackerEntry) (hinv : JournalInv s) (h : Held s) : Held (drainAfter e s) := by
  rcases drainAfter_cases e s with he | ⟨t, -, he⟩
  · rw [he]
    exact h
  · rcases drainEpoch_cases t s with ⟨-, hd⟩ | ⟨i, -, hd⟩ <;> rw [he, hd]
    · exact h
    · exact drainIfSettled_held i hinv h

theorem completeWrite_held {s : State} (e : TrackerEntry) (hinv : JournalInv s) (h : Held s) : Held (completeWrite e s) :=
  drainAfter_held e (hinv.keeps (leaveCount_keeps e s)) (h.keeps (leaveCount_keepsHolds e s))

/-! ## Releases and the end of a copy -/

theorem changeHeld_sameWaits (f : Nat → Nat) (g : Nat) (b : Bank) : SameWaits b (b.changeHeld f g) := by
  refine .of_dirty rfl ?_
  simp only [Bank.changeHeld, List.map_map]
  refine List.map_congr_left fun d _ => ?_
  rw [Function.comp_apply]
  split <;> rfl

theorem releaseHold_keepsHolds (s : State) (h : HoldEntry) : KeepsHolds s (releaseHold s h) := by
  have huncount : KeepsHolds s (uncountHold h s) := by
    unfold uncountHold
    split
    · exact .refl s
    · split
      · exact .refl s
      · exact .setBank fun hi => ⟨hi, changeHeld_sameWaits _ _ _⟩
  exact huncount.trans (.of_frame (by simp [releaseHold]) (by simp [releaseHold]))

/-- A scan puts the queue in order, whatever was resolved before it (R78). -/
theorem releaseScan_held {s : State} (hinv : JournalInv s) (h : Listed s) : Held (releaseScan s) := by
  refine Held.keeps ?_ (releaseScan_induction (P := KeepsHolds _) (.refl _) fun t x ht => ht.trans (releaseHold_keepsHolds t x))
  rcases h with hq | ⟨i, hi, hl⟩
  · exact .of_empty (by simp [hq, scanHolds])
  · have hready : ∀ x ∈ s.ce.holdQueue, granuleResolved s x = readyIn (bank s i) x :=
      fun x hx => granuleResolved_eq hinv hl hx
    refine .inr ⟨i, hi, fun x hx => hl x ?_, ?_⟩
    · simpa using mem_scanHolds_kept [] hx
    · show Stays (readyIn (bank s i)) (scanHolds (granuleResolved s) [] s.ce.holdQueue).1
      rw [scanHolds_congr [] hready]
      exact stays_scanHolds _ _

theorem endEntry_listed {s : State} (i : BankId) (c : CopyOp) (good : Bool) (h : Listed s) : Listed (endEntry i c good s) := by
  have hset {b : Bank} {t : State} (hg : b.dirty.map DirtyEntry.granule = (bank s i).dirty.map DirtyEntry.granule)
      (hs : b.state = (bank s i).state) (he : b.epoch = (bank s i).epoch) (hj : t.ju = (setBank i b s).ju)
      (hq : t.ce = s.ce) : Listed t := by
    rw [Listed, hq]
    refine h.imp_right fun ⟨j, hj', hl⟩ => ⟨j, ?_⟩
    rw [bank_congr hj]
    rcases BankId.eq_or_other i j with rfl | rfl
    · rw [bank_setBank]
      refine ⟨hs ▸ hj', fun x hx g e hw => ⟨he.trans (hl x hx g e hw).1, ?_⟩⟩
      have hlisted := (hl x hx g e hw).2
      rw [Option.isSome_iff_ne_none, ne_eq, entryOf_none] at hlisted ⊢
      have hmem (l : List DirtyEntry) : (∀ d ∈ l, d.granule ≠ g) ↔ g ∉ l.map DirtyEntry.granule := by simp
      rwa [hmem, hg, ← hmem]
    · rw [bank_other_setBank]
      exact ⟨hj', hl⟩
  unfold endEntry
  cases good
  · exact hset (b := { (bank s i).setEntry c.index .skipped with skipped := (bank s i).skipped + 1 })
      (setEntry_granules _ _ _) rfl rfl rfl (by simp)
  · exact hset (b := { (bank s i).setEntry c.index .copied with copied := (bank s i).copied + 1 })
      (setEntry_granules _ _ _) rfl rfl (by simp) (by simp)

theorem waitsOn_stopFor (g e : Nat) (h : HoldEntry) : (h.stopFor g e).waitsOn = h.waitsOn := by
  unfold HoldEntry.stopFor
  split
  · rename_i hw
    rw [hw]
    rfl
  · rfl

theorem stopTimers_listed {s : State} (g e : Nat) (h : Listed s) : Listed (stopTimers g e s) := by
  rcases h with hq | ⟨i, hi, hl⟩
  · exact .inl (by simp [hq])
  · refine .inr ⟨i, hi, fun x hx g' e' hw => ?_⟩
    obtain ⟨y, hy, rfl⟩ := List.mem_map.1 hx
    rw [waitsOn_stopFor] at hw
    exact hl y hy g' e' hw

theorem completeCopy_held {s : State} (c : CopyOp) (hinv : JournalInv s) (h : Held s) : Held (completeCopy c s) := by
  unfold completeCopy
  split
  · exact h.of_frame rfl rfl
  · rename_i i hi
    dsimp only
    generalize hg : (!c.abandoned && decide (c.failed = 0)) = good
    have hend : JournalInv (stopTimers c.granule c.epoch (endEntry i c good s)) :=
      hinv.keeps ((endEntry_keeps (c := c) (g := good) hi).trans (.of_frame (by simp) (by simp) (by simp)))
    have hscan : Held (releaseScan (stopTimers c.granule c.epoch (endEntry i c good s))) :=
      releaseScan_held hend (stopTimers_listed _ _ (endEntry_listed i c good h.listed))
    have hscanned := hend.keeps (releaseScan_keeps _)
    generalize releaseScan (stopTimers c.granule c.epoch (endEntry i c good s)) = t at hscan hscanned
    have hover {u : State} (hw : u.wu = t.wu) (hj : u.ju = t.ju) (he : u.ec = t.ec) (hq : u.ce = t.ce) :
        Held (closeIfResolved i (startCopies (removeCopy c.seq u))) := by
      have hu : JournalInv (removeCopy c.seq u) := hscanned.of_frame hw hj he
      have hremoved : Held (removeCopy c.seq u) := hscan.of_frame hj (by simp [hq])
      exact closeIfResolved_held i (hu.keeps (startCopies_keeps _)) (hremoved.keeps (startCopies_keepsHolds _))
    cases good <;> exact hover (by simp) (by simp) (by simp) (by simp)

theorem finishCopies_held {s : State} (hinv : JournalInv s) (h : Held s) : Held (finishCopies s) :=
  (finishCopies_induction (P := fun t => JournalInv t ∧ Held t) ⟨hinv, h⟩ fun t c ⟨ht, hh⟩ _ _ =>
    ⟨ht.keeps (completeCopy_keeps c t), completeCopy_held c ht hh⟩).2

theorem finishCopy_held {s : State} (q : Seq) (hinv : JournalInv s) (h : Held s) : Held (finishCopy s q) := by
  unfold finishCopy
  split
  · exact h
  · split
    · exact completeCopy_held _ hinv h
    · exact h

end Sys2Proof.Safety


/-! # What damage, cuts, acceptances and completions leave of the Hold Queue (R31, R67, R73, R80) -/

namespace Sys2Proof.Safety

open Sys2Proof.Machine

/-! ## Damage -/

theorem damageBank_held {s : State} (i : BankId) (reason : DamageReason) (hinv : JournalInv s) (h : Held s) :
    Held (damageBank i reason s) := by
  cases hst : (bank s i).state with
  | free | opened =>
    rw [damageBank_idle (by simp [hst])]
    exact h
  | closing =>
    rw [damageBank_closing hst]
    exact Held.keeps (h.of_frame (t := { s with au := damageAlert (bank s i) reason s.au }) rfl rfl)
      (.setBank fun hi => ⟨hi, by rw [bank_congr (t := s) rfl]; exact ⟨rfl, fun _ => rfl⟩⟩)
  | settling | draining => exact .of_empty (damageBank_queues reason hinv (by simp [hst])).1

theorem failWork_held {s : State} (reason : DamageReason) (m g : Option Nat) (hinv : JournalInv s) (h : Held s) :
    Held (failWork reason m g s) := by
  unfold failWork
  dsimp only
  split
  · exact h.of_frame (by simp) (by simp)
  · rename_i i _
    exact (damageBank_held i reason hinv h).of_frame (by simp) (by simp)

theorem copyReadOkay_held {s : State} (q : Seq) (k : Nat) (d : List Byte) (hinv : JournalInv s) (h : Held s) :
    Held (copyReadOkay q k d s) :=
  finishCopy_held q (hinv.of_frame rfl rfl rfl) (h.of_frame rfl rfl)

theorem copyReadFailed_held {s : State} (q : Seq) (k : Nat) (reason : DamageReason) (a : Nat) (hinv : JournalInv s)
    (h : Held s) : Held (copyReadFailed q k reason a s) := by
  have hread : JournalInv (resolveRead q k none s) := hinv.of_frame rfl rfl rfl
  exact finishCopies_held (hread.keeps (failWork_keeps ..)) (failWork_held _ _ _ hread (h.of_frame rfl rfl))

theorem abandonCut_held {s : State} (hinv : JournalInv s) (h : Held s) : Held (abandonCut s) := by
  unfold abandonCut
  split
  · exact h
  · exact damageBank_held _ _ hinv h

theorem expireHold_held {s : State} (n : Nat) (hinv : JournalInv s) (h : Held s) : Held (expireHold n s) := by
  unfold expireHold
  split
  · exact h
  · split
    · exact h
    · rename_i i _
      exact (damageBank_held i .holdTimeout hinv h).of_frame (by simp) (by simp)

/-! ## Cuts and the end of an epoch -/

/-- Without a bank that copies the queue is empty (R80). -/
theorem Held.empty {s : State} (h : Held s) (hn : ∀ i, (bank s i).state.isCopyable = false) : s.ce.holdQueue = [] :=
  h.resolve_right fun ⟨i, hi, _⟩ => by simp [hn i] at hi

theorem holdQueue_acceptCut (i : BankId) (source : CutSource) (s : State) :
    (acceptCut i source s).ce.holdQueue = s.ce.holdQueue := by
  rw [acceptCut_eq_drain, (drainIfSettled_queues i _).2.2.1]
  rfl

/-- Beside a FREE bank an OPEN one is alone, so nothing is held. -/
theorem Held.empty_of_open {s : State} {i : BankId} (h : Held s) (hi : (bank s i).state = .opened)
    (ho : (bank s i.other).state = .free) : s.ce.holdQueue = [] := by
  refine h.empty fun j => ?_
  rcases BankId.eq_or_other i j with rfl | rfl
  · rw [hi]; rfl
  · rw [ho]; rfl

/-- Nothing is held beside a CLOSING bank. -/
theorem Held.empty_of_closing {s : State} {i : BankId} (h : Held s) (hinv : JournalInv s) (hi : (bank s i).state = .closing) :
    s.ce.holdQueue = [] := by
  refine h.empty fun j => ?_
  rcases BankId.eq_or_other i j with rfl | rfl
  · rw [hi]; rfl
  · have hcut := hinv.other_not_cut (i := i) (by rw [hi]; rfl)
    cases hst : (bank s i.other).state <;> simp [hst, BankState.isCut, BankState.isCopyable] at hcut ⊢

theorem acceptCut_held {s : State} {i : BankId} (source : CutSource) (h : Held s) (hi : (bank s i).state = .opened)
    (ho : (bank s i.other).state = .free) : Held (acceptCut i source s) :=
  .of_empty ((holdQueue_acceptCut i source s).trans (h.empty_of_open hi ho))

theorem holdQueue_heldPowerCut (s : State) : (heldPowerCut s).ce.holdQueue = s.ce.holdQueue := by
  rcases heldPowerCut_cases s with ⟨-, he⟩ | ⟨-, he | ⟨i, -, -, he⟩⟩ <;> rw [he]
  · simp
  · exact holdQueue_acceptCut i .power s

theorem closeEpoch_held {s : State} (hinv : JournalInv s) (h : Held s) : Held (closeEpoch s) := by
  rcases closeEpoch_cases s with he | ⟨i, -, hi, he⟩ <;> rw [he]
  · exact h
  · refine .of_empty ((holdQueue_heldPowerCut _).trans ?_)
    simpa using h.empty_of_closing hinv hi

theorem finishSlot_held {s : State} (q : Seq) (hinv : JournalInv s) (h : Held s) : Held (finishSlot q s) := by
  simp only [finishSlot]
  split
  · exact closeEpoch_held (hinv.of_frame (by simp) (by simp) (by simp)) (h.of_frame (by simp) (by simp))
  · exact h.of_frame (by simp) (by simp)

theorem resolveArea_held {s : State} (q : Seq) (failed : Bool) (hinv : JournalInv s) (h : Held s) :
    Held (resolveArea q failed s) := by
  simp only [resolveArea]
  split
  · exact h
  · split
    · exact h
    · split
      · split
        · exact h.of_frame (by simp) (by simp)
        · exact finishSlot_held q (hinv.of_frame (by simp) (by simp) (by simp)) (h.of_frame (by simp) (by simp))
      · exact h.of_frame (by simp) (by simp)

theorem assertPwrwarn_held {s : State} (h : Held s) : Held (assertPwrwarn s) := by
  have hwarn : Held (powerWarning (setPwrwarn true s)) := by
    have hpin : Held (setPwrwarn true s) := h.of_frame rfl rfl
    rcases powerWarning_cases (setPwrwarn true s) with he | ⟨i, -, hi, ⟨ho, -, he⟩ | ⟨-, he⟩⟩ <;> rw [he]
    · exact hpin
    · exact acceptCut_held .power hpin (openBank_some hi) ho
    · exact hpin.of_frame rfl rfl
  unfold assertPwrwarn
  split
  · exact h
  · dsimp only
    split
    · exact hwarn.of_frame (by simp) (by simp)
    · exact h.of_frame rfl rfl

theorem cutCommand_held {s : State} (h : Held s) : Held (cutCommand s).2 := by
  rcases cutCommand_cases s with he | ⟨i, hi, ho, -, he⟩ <;> rw [he]
  exacts [h, acceptCut_held .command h (openBank_some hi) ho]

theorem stopCommand_held {s : State} (h : Held s) : Held (stopCommand s).2 := by
  rcases stopCommand_cases s with he | ⟨i, hi, ho, he⟩ <;> rw [he]
  exacts [h, acceptCut_held .stop h (openBank_some hi) ho]

/-- A bank that does not copy may change as it will. -/
theorem KeepsHolds.setBank_of_not {s : State} {i : BankId} (b : Bank) (h : (bank s i).state.isCopyable = false) :
    KeepsHolds s (Machine.setBank i b s) := .setBank fun hi => by simp [h] at hi

theorem journalStart_held {s : State} (n : Nat) (h : Held s) : Held (journalStart n s).2 := by
  rcases journalStart_cases n s with he | ⟨i, -, -, hi, -, -, he⟩ <;> rw [he]
  · exact h
  · have hfree : (bank s i).state = .free := of_decide_eq_true (findBank_some hi).1
    exact Held.of_frame (s := openWith i n s) (h.keeps (.setBank_of_not _ (by rw [hfree]; rfl))) rfl rfl

theorem abandonCommand_held {s : State} (hinv : JournalInv s) (h : Held s) : Held (abandonCommand s).2 := by
  have hcut := abandonCut_held hinv h
  rw [abandonCommand_state]
  generalize abandonCut s = u at hcut
  refine Held.of_frame (s := abandonOpen u) ?_ rfl rfl
  unfold abandonOpen
  split
  · exact hcut
  · rename_i i hi
    have hlog : Held (appendLog (abandonedRecord (bank u i)) u) := hcut.of_frame rfl rfl
    refine Held.of_frame (s := setBank i freeBank (appendLog (abandonedRecord (bank u i)) u)) ?_ rfl rfl
    refine hlog.keeps (.setBank_of_not _ ?_)
    rw [bank_congr (s := appendLog _ _) (t := u) rfl, openBank_some hi]
    rfl

/-! ## Acceptance -/

theorem tagWrite_keepsHolds (n : Nat) (s : State) : KeepsHolds s (tagWrite n s) := by
  unfold tagWrite
  split
  · rename_i i _ _
    have hset : KeepsHolds s (setBank i { bank s i with settle := (bank s i).settle + 1 } s) :=
      .setBank fun hi => ⟨hi, rfl, fun _ => rfl⟩
    exact hset.trans (.of_frame (by simp) (by simp))
  · exact .refl s

/-- The mark reaches the OPEN bank, which holds nothing. -/
theorem markWrite_keepsHolds (r : LookupResult) (g : Nat) (s : State) : KeepsHolds s (markWrite r g s) := by
  unfold markWrite
  split
  · rename_i i w _ hi _
    have hopen : (bank s i).state.isCopyable = false := by rw [openBank_some hi]; rfl
    split
    · unfold markGranule
      dsimp only
      split
      · exact .refl s
      · have hset (b : Bank) : KeepsHolds s (setBank i b s) := .setBank_of_not b hopen
        split
        · exact (hset _).trans (.of_frame (report_frame ..).2.2.2.1 (by simp))
        · split
          · exact (hset _).trans (.of_frame (report_frame ..).2.2.2.1 (by simp))
          · exact (hset _).trans (.of_frame (report_frame ..).2.2.2.1 (by simp))
    · exact .refl s
  · exact .refl s

theorem joinQueue_holdQueue (h : HoldEntry) (r : LookupResult) (s : State) :
    (joinQueue h r s).ce.holdQueue = s.ce.holdQueue ++ [h] := by simp [joinQueue]

theorem promoteCopy_holdQueue (g e : Nat) (s : State) : (promoteCopy g e s).ce.holdQueue = s.ce.holdQueue := by
  unfold promoteCopy
  split
  · rfl
  · split
    · simp
    · rfl

/-- A write held with reason OWN waits on an entry that a scan does not release (R73). -/
theorem holdOwn_held {n : Nat} {str : WriteStream} {i : BankId} {d : DirtyEntry} {g : Nat} (r : LookupResult) {s : State}
    (hinv : JournalInv s) (h : Held s) (ho : ownHold s g = some (i, d)) : Held (holdOwn n str i d r s) := by
  obtain ⟨hi, hd, hw⟩ := ownHold_some ho
  have hcopy := holdBank_some hi
  obtain ⟨-, rfl⟩ := entryOf_some hd
  obtain ⟨e, he, -, -⟩ := (hinv.shape i).shape.2 (BankState.isCut_iff.1 (BankState.isCut_of_isCopyable hcopy)).1
  generalize hx : (⟨n, str, .own d.granule ((bank s i).epoch.getD 0) (.running s.ce.holdLimit 0)⟩ : HoldEntry) = x
  have hwaits : x.waitsOn = some (d.granule, e) := by rw [← hx, he]; rfl
  have hready : readyIn (bank s i) x = false := by simp [readyIn, hwaits, hd, hw]
  have hlists {q : List HoldEntry} (hq : ListsHolds (bank s i) q) : ListsHolds (bank s i) (q ++ [x]) := by
    intro y hy g e' hye
    rcases List.mem_append.1 hy with hy | hy
    · exact hq y hy g e' hye
    · obtain rfl := List.mem_singleton.1 hy
      rw [hwaits] at hye
      cases hye
      exact ⟨he, by simp [hd]⟩
  have hjoin : Held (joinQueue x r s) := by
    refine .inr ⟨i, ?_⟩
    rw [joinQueue_holdQueue, bank_congr (s := joinQueue x r s) (t := s) (by simp)]
    rcases h with hq | ⟨j, hj, hl, hs⟩
    · rw [hq]
      exact ⟨hcopy, hlists (by simp [ListsHolds]), Stays.append (q := []) rfl (.inl hready)⟩
    · obtain rfl : j = i := Option.some.inj ((hinv.holdBank_eq hj).symm.trans hi)
      exact ⟨hcopy, hlists hl, hs.append (.inl hready)⟩
  have hcount : Held (setBank i ((bank s i).changeHeld (· + 1) d.granule) (joinQueue x r s)) := by
    refine hjoin.keeps (.setBank ?_)
    rw [bank_congr (s := joinQueue x r s) (t := s) (by simp)]
    exact fun hi => ⟨hi, changeHeld_sameWaits _ _ _⟩
  unfold holdOwn
  dsimp only
  rw [hx]
  split
  · exact hcount.of_frame (by simp) (promoteCopy_holdQueue _ _ _)
  · exact hcount

/-- A write held with reason BEHIND stays behind an entry of its stream (R74). -/
theorem joinBehind_held {x : HoldEntry} (r : LookupResult) {s : State} (h : Held s) (hx : x.reason = .behind)
    (hq : ∃ y ∈ s.ce.holdQueue, y.stream = x.stream) : Held (joinQueue x r s) := by
  obtain ⟨y, hy, he⟩ := hq
  have hwaits : x.waitsOn = none := by simp [HoldEntry.waitsOn, hx]
  rcases h with hq | ⟨i, hi, hl, hs⟩
  · simp [hq] at hy
  · refine .inr ⟨i, ?_⟩
    rw [joinQueue_holdQueue, bank_congr (s := joinQueue x r s) (t := s) (by simp)]
    refine ⟨hi, fun z hz g e hw => ?_, hs.append (.inr ⟨y, hy, he⟩)⟩
    rcases List.mem_append.1 hz with hz | hz
    · exact hl z hz g e hw
    · obtain rfl := List.mem_singleton.1 hz
      simp [hwaits] at hw

theorem holdCheck_held {s : State} (n g : Nat) (str : WriteStream) (r : LookupResult) (hinv : JournalInv s) (h : Held s) :
    Held (holdCheck n g str r s) := by
  rcases holdCheck_cases n g str r s with ⟨i, d, ho, he⟩ | ⟨-, hq, he⟩ | ⟨-, -, he⟩ <;> rw [he]
  · exact holdOwn_held r hinv h ho
  · exact joinBehind_held r h rfl hq
  · exact h.of_frame (by simp) (by simp)

theorem acceptInto_held {s : State} (n : Nat) (d : Direction) (t : Txn) (bs : List Byte) (st : List Bool)
    (hinv : JournalInv s) (h : Held s) : Held (acceptInto n d t bs st s) := by
  have hpass {u : State} (r : LookupResult) (hu : JournalInv u) (hh : Held u) : Held (passWrite n t r u) := by
    unfold passWrite
    split
    · exact hh.of_frame (by simp) (by simp)
    · exact holdCheck_held _ _ _ _ (hu.keeps ((tagWrite_keeps n u).trans (markWrite_keeps r _ _)))
        (hh.keeps ((tagWrite_keepsHolds n u).trans (markWrite_keepsHolds r _ _)))
  unfold acceptInto
  dsimp only
  split
  · exact h.of_frame (by simp) (by simp)
  · cases d
    · exact h.of_frame (by simp) (by simp)
    · exact hpass _ (hinv.of_frame (by simp) (by simp) (by simp)) (h.of_frame (by simp) (by simp))

/-! ## Completions, the tick and the port reset -/

theorem completePass_held {s : State} (n : Nat) (o : UpOutcome) (bs : List Byte) (x : Option Bool) (hinv : JournalInv s)
    (h : Held s) : Held (completePass n o bs x s) := by
  unfold completePass
  split
  · exact h
  · rename_i e _
    have he := completeWrite_held e hinv h
    dsimp only
    split <;> exact he.of_frame (by simp) (by simp)

theorem requestOkay_held {s : State} (t : Tag) (r : Response) (hinv : JournalInv s) (h : Held s) :
    Held (requestOkay t r s) := by
  unfold requestOkay
  cases t.source with
  | passRead n | passWrite n => exact completePass_held _ _ _ _ hinv h
  | copyRead q k => exact copyReadOkay_held q k _ hinv h
  | dataWrite q k | endSpill q k => exact resolveArea_held q false hinv h
  | dataHeader q | voidHeader q | endHeader q => exact finishSlot_held q hinv h

theorem requestFailed_held {s : State} (t : Tag) (k : FaultKind) (reason : DamageReason) (hinv : JournalInv s) (h : Held s) :
    Held (requestFailed t k reason s) := by
  have hrecord (q : Seq) : JournalInv (recordFailed q t.address s) ∧ Held (recordFailed q t.address s) :=
    ⟨hinv.keeps (failWork_keeps ..), failWork_held _ _ _ hinv h⟩
  unfold requestFailed
  cases t.source with
  | passRead n | passWrite n =>
    exact completePass_held _ _ _ _ (hinv.of_frame (by simp) (by simp) (by simp)) (h.of_frame (by simp) (by simp))
  | copyRead q k => exact copyReadFailed_held q k reason _ hinv h
  | dataWrite q k | endSpill q k => exact resolveArea_held q true (hrecord q).1 (hrecord q).2
  | dataHeader q | voidHeader q | endHeader q => exact finishSlot_held q (hrecord q).1 (hrecord q).2

theorem takeResponse_held {s : State} (d : DsResult) (r : Response) (hinv : JournalInv s) (h : Held s) :
    Held (takeResponse d r s) := by
  have hdrop (n : Nat) : JournalInv (dropTag n s) ∧ Held (dropTag n s) := ⟨hinv.of_frame rfl rfl rfl, h.of_frame rfl rfl⟩
  rcases takeResponse_cases d r s with ⟨-, he⟩ | ⟨t, -, -, he⟩ | ⟨t, _, _, -, -, ⟨-, he⟩ | ⟨-, he⟩⟩ <;> rw [he]
  · exact h.of_frame (by simp) (by simp)
  · exact h.of_frame (by simp) (by simp)
  · exact requestOkay_held t r (hdrop _).1 (hdrop _).2
  · exact requestFailed_held t _ _ (hdrop _).1 (hdrop _).2

theorem expireResponse_held {s : State} (n : Nat) (hinv : JournalInv s) (h : Held s) : Held (expireResponse n s) := by
  rcases expireResponse_cases n s with he | ⟨t, _, _, -, -, -, he⟩ <;> rw [he]
  · exact h
  · exact requestFailed_held t _ _ (hinv.of_frame (by simp) (by simp) (by simp)) (h.of_frame (by simp) (by simp))

theorem tick_stream (h : HoldEntry) : h.tick.stream = h.stream := by
  unfold HoldEntry.tick
  split <;> rfl

theorem tick_waitsOn (h : HoldEntry) : h.tick.waitsOn = h.waitsOn := by
  unfold HoldEntry.tick
  split <;> simp_all [HoldEntry.waitsOn]

/-- Timers that count change nothing of what the queue waits on. -/
theorem tick_held {s : State} (h : Held s) : Held (tick s) := by
  have hready (b : Bank) (x : HoldEntry) : readyIn b x.tick = readyIn b x := by
    unfold readyIn
    rw [tick_waitsOn]
  refine Held.of_frame (s := countMicrosecond s) ?_ (by simp [tick]) (by simp [tick])
  rcases h with hq | ⟨i, hi, hl, hs⟩
  · exact .of_empty (by simp [countMicrosecond, hq])
  · refine .inr ⟨i, hi, fun x hx g e hw => ?_, Stays.map tick_stream (hready _) hs⟩
    obtain ⟨y, hy, rfl⟩ := List.mem_map.1 hx
    rw [tick_waitsOn] at hw
    exact hl y hy g e hw

theorem assertPortReset_held {s : State} (hinv : JournalInv s) (h : Held s) : Held (assertPortReset s) := by
  unfold assertPortReset
  split
  · dsimp only
    split
    · exact Held.of_frame (s := portReset (setPortRstN false s)) (.of_empty (portReset_leaves hinv).2.1) (by simp) (by simp)
    · exact h.of_frame rfl rfl
  · exact h

theorem releaseSlots_held {s : State} (n : Nat) (h : Held s) : Held (releaseSlots n s).2 := by
  rcases releaseSlots_cases n s with he | he <;> rw [he]
  · exact h
  · refine Held.keeps ?_ (startCopies_keepsHolds _)
    rcases reservePendingEnd_cases { s with rw := { s.rw with release := s.rw.release + BitVec.ofNat 32 n } } with he | he <;>
      rw [he]
    · exact h.of_frame rfl rfl
    · exact h.of_frame (by simp) (by simp)

/-! ## Every command keeps the invariant -/

@[simp] theorem setTimeouts_holdQueue (r h : Nat) (s : State) : (setTimeouts r h s).2.ce.holdQueue = s.ce.holdQueue := by
  unfold setTimeouts
  split <;> rfl

@[simp] theorem setCopyShare_ce (n : Nat) (s : State) : (setCopyShare n s).2.ce = s.ce := by
  unfold setCopyShare
  split <;> rfl

@[simp] theorem setRingLow_ce (n : Nat) (s : State) : (setRingLow n s).2.ce = s.ce := by
  unfold setRingLow
  split <;> rfl

@[simp] theorem readFault_ce (s : State) : (readFault s).2.ce = s.ce := by
  unfold readFault
  split <;> rfl

@[simp] theorem setCounter_ce (c e d w r sc en : Nat) (s : State) : (setCounter c e d w r sc en s).2.ce = s.ce := by
  unfold setCounter
  split
  · rfl
  · split <;> rfl

@[simp] theorem clearCounter_ce (c : Nat) (s : State) : (clearCounter c s).2.ce = s.ce := by
  unfold clearCounter
  split <;> rfl

@[simp] theorem csFall_ce (s : State) : (csFall s).ce = s.ce := by
  simp only [csFall]
  (repeat' split) <;> rfl

@[simp] theorem csRise_ce (s : State) : (csRise s).ce = s.ce := by
  unfold csRise
  split <;> rfl

@[simp] theorem releaseReset_ce (s : State) : (releaseReset s).ce = s.ce := by
  unfold releaseReset
  split <;> rfl

@[simp] theorem deassertPortReset_ce (s : State) : (deassertPortReset s).ce = s.ce := by
  simp only [deassertPortReset]
  (repeat' split) <;> rfl

theorem effect_held {c : Instr} {s : State} (hinv : JournalInv s) (h : Held s) : Held (effect c s) := by
  have htables {t : State} (hj : t.ju = s.ju) (hc : t.ce = s.ce) : Held t := h.of_frame hj (by rw [hc])
  cases c
  case setMode m => rcases setMode_cases m s with he | he | ⟨-, -, -, he⟩ <;> rw [effect, he] <;> exact htables rfl rfl
  case setMemoryLimit l =>
    rcases setMemoryLimit_cases l s with he | ⟨-, -, -, -, he⟩ <;> rw [effect, he] <;> exact htables rfl rfl
  case mapInitiator i d => rcases mapInitiator_cases i d s with he | ⟨_, -, he⟩ <;> rw [effect, he] <;> exact htables rfl rfl
  case installWindow n d a g e b k j =>
    rcases installWindow_cases n d a g e b k j s with he | ⟨_, -, -, he⟩ <;> rw [effect, he] <;> exact htables rfl rfl
  case removeWindow n => rcases removeWindow_cases n s with he | he <;> rw [effect, he] <;> exact htables rfl rfl
  case extendWindow n e =>
    rcases extendWindow_cases n e s with he | ⟨_, -, -, -, -, he⟩ <;> rw [effect, he] <;> exact htables rfl rfl
  case setKey n k => rcases setKey_cases n k s with he | ⟨_, _, -, -, he⟩ <;> rw [effect, he] <;> exact htables rfl rfl
  case configureRing b n =>
    rcases configureRing_cases b n s with he | he | ⟨_, -, -, -, -, -, he⟩ <;> rw [effect, he] <;> exact htables rfl rfl
  case unconfigureRing => rcases unconfigureRing_cases s with he | he <;> rw [effect, he] <;> exact htables rfl rfl
  case journalStart n => exact journalStart_held n h
  case cut => exact cutCommand_held h
  case journalStop => exact stopCommand_held h
  case abandon => exact abandonCommand_held hinv h
  case releaseSlots n => exact releaseSlots_held n h
  case rstNAssert =>
    simp only [effect, assertReset]
    split
    exacts [.of_empty rfl, h]
  case portRstNAssert => exact assertPortReset_held hinv h
  case pwrwarnAssert => exact assertPwrwarn_held h
  case acceptance p =>
    cases p
    case read t =>
      rcases acceptRead_cases t s with he | ⟨n, -, -, he⟩ <;> simp only [effect, he]
      exacts [h, acceptInto_held _ _ _ _ _ hinv h]
    case lastBeat =>
      rcases acceptStaged_cases s with he | ⟨w, n, -, -, -, -, he⟩ <;> simp only [effect, he]
      exacts [h, acceptInto_held _ _ _ _ _ (hinv.of_frame rfl rfl rfl) (h.of_frame rfl rfl)]
  case responseOkay r => exact takeResponse_held .okay r hinv h
  case responseError r => exact takeResponse_held .error r hinv h
  case lateResponse d r => exact takeResponse_held d r hinv h
  case responseTimerExpiry n => exact expireResponse_held n hinv h
  case holdTimerExpiry n => exact expireHold_held n hinv h
  case usTick => exact tick_held h
  all_goals exact h.of_frame (by simp [effect]) (by simp [effect])

/-- Settles O56: beside the one bank that copies the invariant says that a release scan would release nothing (`holdInv_iff`),
and that every event leaves: entries join behind a reason to wait, and each end of a copy or of a bank's copying scans or empties
the queue. -/
theorem holdInvariantKept : Obligations.HoldInvariantKept := by
  intro s t hq hinv hh ht
  have hinv' : JournalInv t := step_journalInv hq hinv ht
  refine (holdInv_iff hinv').2 ?_
  have hheld := (holdInv_iff hinv).1 hh
  rcases step_cases ht with ⟨-, rfl⟩ | ⟨c, rest, -, hc⟩
  · exact hheld
  · have hinv0 : JournalInv (setPending rest s) := hinv.of_frame rfl rfl rfl
    have hheld0 : Held (setPending rest s) := hheld.of_frame rfl rfl
    exact exec_preserves (fun _ _ ha => ha.of_frame (by simp) (by simp)) (fun _ _ ha => ha.of_frame (by simp) (by simp))
      hheld0 (effect_held hinv0 hheld0) hc

end Sys2Proof.Safety


/-! # The hold check (Table 4.2.1, R72 to R75, R84) -/

namespace Sys2Proof.Safety

open Sys2Proof.Machine

/-- An element that alone passes a test is the one found by it. -/
theorem find?_eq_some_of_unique {α : Type} {p : α → Bool} {l : List α} {a : α} (ha : a ∈ l) (hp : p a = true)
    (hu : ∀ x ∈ l, p x = true → x = a) : l.find? p = some a := by
  obtain ⟨x, hx⟩ := Option.isSome_iff_exists.1 (List.find?_isSome.2 ⟨a, ha, hp⟩)
  rw [hx, hu x (List.mem_of_find?_eq_some hx) (List.find?_some hx)]

section Check

variable {s : State} {i : BankId} {g e : Nat}

theorem isCopyable_of_copying (h : (bank s i).state = .settling ∨ (bank s i).state = .draining) :
    (bank s i).state.isCopyable = true := BankState.isCopyable_iff.2 h

theorem DirtyInv.lists (h : DirtyInv s) (i : BankId) : ListsInv (bank s i) := by
  cases i
  exacts [h.1, h.2]

/-- The one entry of the granule, in the one bank that copies, is the one of test 1. -/
theorem ownHold_eq {d : DirtyEntry} (hinv : JournalInv s) (hl : DirtyInv s)
    (hi : (bank s i).state = .settling ∨ (bank s i).state = .draining) (hd : d ∈ (bank s i).dirty)
    (hw : d.state.isWaiting = true) : ownHold s d.granule = some (i, d) := by
  simp [ownHold, hinv.holdBank_eq (isCopyable_of_copying hi), entryOf_eq_of_mem (hl.lists i).listedOnce hd, hw]

theorem ownHold_none (h : ∀ i, (bank s i).state = .settling ∨ (bank s i).state = .draining →
    ∀ d ∈ (bank s i).dirty, d.granule = g → d.state = .copied ∨ d.state = .skipped) : ownHold s g = none := by
  by_contra hsome
  obtain ⟨⟨i, d⟩, ho⟩ := Option.ne_none_iff_exists'.1 hsome
  obtain ⟨hi, hd, hw⟩ := ownHold_some ho
  obtain ⟨hmem, hg⟩ := entryOf_some hd
  rcases h i (BankState.isCopyable_iff.1 (holdBank_some hi)) d hmem hg with hst | hst <;>
    simp [hst, EntryState.isWaiting] at hw

theorem holdCheck_own {n : Nat} {str : WriteStream} {r : LookupResult} {d : DirtyEntry} (h : ownHold s g = some (i, d)) :
    holdCheck n g str r s = holdOwn n str i d r s := by
  simp only [holdCheck, h]

/-- The held write in the queue, its tracker entry HELD, its granule's count raised: all of R73 but the promotion. -/
def heldOwn (n : Nat) (str : WriteStream) (i : BankId) (d : DirtyEntry) (r : LookupResult) (s : State) : State :=
  setBank i ((bank s i).changeHeld (· + 1) d.granule)
    (joinQueue ⟨n, str, .own d.granule ((bank s i).epoch.getD 0) (.running s.ce.holdLimit 0)⟩ r s)

theorem holdOwn_eq (n : Nat) (str : WriteStream) (i : BankId) (d : DirtyEntry) (r : LookupResult) (s : State) :
    holdOwn n str i d r s =
      if d.state = .copying then promoteCopy d.granule ((bank s i).epoch.getD 0) (heldOwn n str i d r s)
      else heldOwn n str i d r s := rfl

/-! ## The promotion (R84) -/

/-- The one copy of the granule. -/
theorem promoteCopy_of_copy {c : CopyOp} (hc : c ∈ s.ce.copies) (hg : c.granule = g) (he : c.epoch = e)
    (hu : ∀ x ∈ s.ce.copies, x.granule = g → x.epoch = e → x = c) :
    promoteCopy g e s =
      if c.cls = .background ∧ s.dp.background.any (Request.isReadOf c.seq) = true then
        promoteReads c.seq { s with ce := { s.ce with
          copies := s.ce.copies.map fun x => if x.seq = c.seq then { x with cls := .urgent } else x } }
      else s := by
  have hfind : (s.ce.copies.find? fun c => decide (c.granule = g) && decide (c.epoch = e)) = some c :=
    find?_eq_some_of_unique hc (by simp [hg, he]) fun x hx hp => by
      rw [Bool.and_eq_true, decide_eq_true_eq, decide_eq_true_eq] at hp
      exact hu x hx hp.1 hp.2
  simp only [promoteCopy, hfind]

theorem promoteReads_eq (q : Seq) (s : State) :
    promoteReads q s = { s with dp := { s.dp with
      urgent := s.dp.urgent ++ s.dp.background.filter (Request.isReadOf q)
      background := s.dp.background.filter fun x => !x.isReadOf q
      shareCounter := if (s.dp.background.filter fun x => !x.isReadOf q) = [] then 0 else s.dp.shareCounter } } := by
  rw [promoteReads, clearShareIfIdle_eq]

theorem any_isReadOf_iff {q : Seq} {l : List Request} :
    l.any (Request.isReadOf q) = true ↔ l.filter (Request.isReadOf q) ≠ [] := by
  rw [List.any_eq_true, ne_eq, List.filter_eq_nil_iff]
  push Not
  rfl

/-! ## The other two results -/

theorem holdCheck_behind {n : Nat} {str : WriteStream} {r : LookupResult} (h : ownHold s g = none)
    (hq : ∃ x ∈ s.ce.holdQueue, x.stream = str) :
    holdCheck n g str r s = joinQueue { entry := n, stream := str, reason := .behind } r s := by
  have hany : (s.ce.holdQueue.any fun x => decide (x.stream = str)) = true := by simpa using hq
  simp only [holdCheck, h, hany, if_true]

theorem holdCheck_issued {n : Nat} {str : WriteStream} {r : LookupResult} (h : ownHold s g = none)
    (hq : ∀ x ∈ s.ce.holdQueue, x.stream ≠ str) : holdCheck n g str r s = issueEntry n s := by
  have hany : (s.ce.holdQueue.any fun x => decide (x.stream = str)) = false := by simpa using hq
  simp only [holdCheck, h, hany]
  rfl

end Check

/-- Settles O34: the entry that waits is found by `ownHold_eq`, its copy by `promoteCopy_of_copy`, and without such an entry the
queue decides between BEHIND and the hand-over. -/
theorem holdCheckRule : Obligations.HoldCheckRule := by
  intro s n g str r hinv hl
  refine ⟨?_, fun hnone => ⟨holdCheck_behind (ownHold_none hnone), fun hq e he => ?_⟩⟩
  · rintro i e k d h u rfl hi he hd rfl rfl hu
    have hepoch : (bank s i).epoch.getD 0 = e := by
      rw [he]
      rfl
    have hheld : heldOwn n str i d r s = u := by
      rw [hu, heldOwn, hepoch]
      rfl
    have hown (hw : d.state.isWaiting = true) : holdCheck n d.granule str r s =
        if d.state = .copying then promoteCopy d.granule e u else u := by
      rw [holdCheck_own (ownHold_eq hinv hl hi hd hw), holdOwn_eq, hheld, hepoch]
    have hport : u.dp = s.dp ∧ u.ce.copies = s.ce.copies := by
      rw [hu]
      simp
    refine ⟨fun hp => ?_, fun c hc hcopying hg hce hunique => ?_⟩
    · rw [hown (by rw [hp]; rfl), if_neg (by simp [hp])]
    · rw [hown (by rw [hcopying]; rfl), if_pos hcopying,
        promoteCopy_of_copy (s := u) (by rw [hport.2]; exact hc) hg hce (by rw [hport.2]; exact hunique)]
      refine ⟨fun hurgent => if_neg (by simp [hurgent]), fun moved stay hback hmoved hstay => ⟨fun hnil => ?_, fun hsome => ?_⟩⟩
      · refine if_neg fun ⟨_, hany⟩ => any_isReadOf_iff.1 hany ?_
        rw [hport.1, ← hmoved, hnil]
      · rw [if_pos ⟨hback, any_isReadOf_iff.2 (by rw [hport.1, ← hmoved]; exact hsome)⟩, promoteReads_eq, hmoved, hstay]
        simp only [hport.1]
  · rw [holdCheck_issued (ownHold_none hnone) hq]
    simp only [issueEntry, he]
    rfl

end Sys2Proof.Safety

/-! # Hold timers and the tick (R81, R82, R85, R151, R159, R160, R169) -/

namespace Sys2Proof.Safety

open Sys2Proof.Machine

/-! ## The expiry of a hold timer -/

section Expiry

variable {s : State} {n : Nat} {h : HoldEntry}

theorem expireHold_of_not_due (hf : (s.ce.holdQueue.find? fun x => decide (x.entry = n)) = some h) (hd : h.due = none) :
    expireHold n s = s := by
  simp only [expireHold, hf, Option.bind_some, hd]

theorem expireHold_of_due {g e : Nat} {i : BankId}
    (hf : (s.ce.holdQueue.find? fun x => decide (x.entry = n)) = some h) (hd : h.due = some (g, e))
    (hi : bankOfEpoch e s = some i) :
    expireHold n s = reportFault .copyFailed { granule := some g } (damageBank i .holdTimeout s) := by
  simp only [expireHold, hf, Option.bind_some, hd, hi]

end Expiry

/-- Settles O47: the entry of the number is the one found, and its epoch is that of the bank that copies (R80). -/
theorem holdTimerExpiryRule : Obligations.HoldTimerExpiryRule := by
  rintro s n h hr hinv hh hn hmem rfl
  have hfind : (s.ce.holdQueue.find? fun x => decide (x.entry = h.entry)) = some h :=
    find?_eq_some_of_unique hmem (by simp) fun x hx he => List.inj_on_of_nodup_map hn hx hmem (by simpa using he)
  have hexec : exec (.holdTimerExpiry h.entry) s = .next (raiseRingLow s (expireHold h.entry s)) := event_high hr
  have hidle (hd : h.due = none) : exec (.holdTimerExpiry h.entry) s = .next s := by
    rw [hexec, expireHold_of_not_due hfind hd, raiseRingLow_self]
  refine ⟨fun hb => hidle (by simp [HoldEntry.due, hb]), fun g e hs => hidle (by simp [HoldEntry.due, hs]),
    fun g e limit elapsed hown => ⟨fun hlt => hidle ?_, fun hle => ?_⟩⟩
  · simp [HoldEntry.due, hown, Nat.not_le.2 hlt]
  · obtain ⟨i, hi, he, -⟩ := hh.ownListed h hmem g e (by simp [HoldEntry.waitsOn, hown])
    refine ⟨i, BankState.isCopyable_iff.1 (holdBank_some hi), he, ?_⟩
    rw [hexec, expireHold_of_due (g := g) (e := e) hfind (by simp [HoldEntry.due, hown, hle]) (hinv.bankOfEpoch_iff.2 he)]

/-! ## What starts and ring wait read -/

section Wants

variable {s : State} {i : BankId}

theorem JournalInv.drainingBank_eq (hinv : JournalInv s) (hi : (bank s i).state = .draining) : drainingBank s = some i :=
  findBank_of_unique (by simpa using hi) (by simpa using hinv.other_not_draining (i := i) (by rw [hi]; rfl))

theorem firstPending_isSome {b : Bank} : b.firstPending.isSome = true ↔ ∃ d ∈ b.dirty, d.state = .pending := by
  simp [Bank.firstPending, List.findIdx?_isSome]

theorem wantsCopy_iff (hinv : JournalInv s) :
    wantsCopy s = true ↔ s.ce.copies.length < 4 ∧
      ∃ i, (bank s i).state = .draining ∧ ∃ d ∈ (bank s i).dirty, d.state = .pending := by
  unfold wantsCopy
  rw [Bool.and_eq_true, decide_eq_true_eq]
  refine and_congr Iff.rfl ⟨fun h => ?_, fun ⟨i, hi, hd⟩ => ?_⟩
  · cases hi : drainingBank s with
    | none => simp [hi] at h
    | some i =>
      simp only [hi] at h
      exact ⟨i, drainingBank_some hi, firstPending_isSome.1 h⟩
  · simp only [hinv.drainingBank_eq hi]
    exact firstPending_isSome.2 hd

end Wants

/-! ## The microsecond -/

theorem tick_eq_of_cases {tag : Tag → Tag} (hexpired : ∀ t, t.state = .expired → tag t = t)
    (hrun : ∀ t l n, t.state = .outstanding l n → tag t = { t with state := .outstanding l (n + 1) }) : tag = Tag.tick := by
  funext t
  cases hst : t.state with
  | expired => simp [hexpired t hst, Tag.tick, hst]
  | outstanding l n => simp [hrun t l n hst, Tag.tick, hst]

theorem holdTick_eq_of_cases {hold : HoldEntry → HoldEntry}
    (hrun : ∀ h g e l n, h.reason = .own g e (.running l n) → hold h = { h with reason := .own g e (.running l (n + 1)) })
    (hstays : ∀ h, h.reason = .behind ∨ (∃ g e, h.reason = .own g e .stopped) → hold h = h) : hold = HoldEntry.tick := by
  funext h
  cases hr : h.reason with
  | behind => simp [hstays h (.inl hr), HoldEntry.tick, hr]
  | own g e timer =>
    cases timer with
    | stopped => simp [hstays h (.inr ⟨g, e, hr⟩), HoldEntry.tick, hr]
    | running l n => simp [hrun h g e l n hr, HoldEntry.tick, hr]

/-- Settles O48: the two timers by their cases, and ring wait by what `wantsCopy` and the free slot count read. -/
theorem microsecondTick : Obligations.MicrosecondTick := by
  intro s u v tag hold hr hinv hexpired hrun hholdRun hholdStays hu hv
  obtain rfl := tick_eq_of_cases hexpired hrun
  obtain rfl := holdTick_eq_of_cases hholdRun hholdStays
  obtain rfl : u = countMicrosecond s := hu
  have htick : tick s = if inRingWait s then report { event := .ringWait } 1 v else v := by
    have hlen : (countMicrosecond s).ce.holdQueue.length = s.ce.holdQueue.length := by simp [countMicrosecond]
    rw [hv, ← hlen]
    rfl
  have hexec : exec .usTick s = .next (tick s) := event_of_rw hr (by simp)
  have hwait : inRingWait s = true ↔ (s.ce.copies.length < 4 ∧
      ∃ i, (bank s i).state = .draining ∧ ∃ d ∈ (bank s i).dirty, d.state = .pending) ∧ freeSlots s.rw = 0 := by
    rw [inRingWait, Bool.and_eq_true, wantsCopy_iff hinv, decide_eq_true_eq]
  rw [hexec, htick]
  refine ⟨fun hc hf hp => by rw [if_pos (hwait.2 ⟨⟨hc, hp⟩, hf⟩)], fun hn => ?_⟩
  rw [if_neg]
  rw [hwait]
  rintro ⟨⟨hc, i, hi, d, hd, hp⟩, hf⟩
  rcases hn with hn | hn | hn
  · omega
  · omega
  · exact hn i hi d hd hp

end Sys2Proof.Safety


/-! # The starts of copies (R83, R86, R100, R101, R103) -/

namespace Sys2Proof.Safety

open Sys2Proof.Machine

/-! ## The entry chosen -/

section Choice

variable {b : Bank} {q : List HoldEntry} {index e : Nat} {d : DirtyEntry}

/-- A granule is listed once, so its PENDING entry is found at its index. -/
theorem pendingIndex_eq (hn : (b.dirty.map DirtyEntry.granule).Nodup) (hd : b.dirty[index]? = some d)
    (hp : d.state = .pending) : b.pendingIndex d.granule = some index := by
  obtain ⟨hlt, hget⟩ := List.getElem?_eq_some_iff.1 hd
  refine List.findIdx?_eq_some_iff_getElem.2 ⟨hlt, by simp [hget, hp], fun m hm => ?_⟩
  have hne : b.dirty[m].granule ≠ d.granule := by
    intro he
    have hmap : (b.dirty.map DirtyEntry.granule)[m]'(by simp; omega) = (b.dirty.map DirtyEntry.granule)[index]'(by simpa) := by
      simpa [hget] using he
    exact absurd ((hn.getElem_inj_iff).1 hmap) (by omega)
  simp [hne]

theorem pendingIndex_none {g : Nat} (h : ∀ y ∈ b.dirty, y.granule = g → y.state ≠ .pending) : b.pendingIndex g = none := by
  rw [Bank.pendingIndex, List.findIdx?_eq_none_iff]
  intro y hy
  by_cases hg : y.granule = g
  · simp [h y hy hg]
  · simp [hg]

theorem chooseHeld_none
    (h : ∀ x ∈ q, ∀ g e, x.waitsOn = some (g, e) → b.epoch = some e → ∀ y ∈ b.dirty, y.granule = g → y.state ≠ .pending) :
    chooseHeld b q = none := by
  rw [chooseHeld, List.findSome?_eq_none_iff]
  intro x hx
  cases hw : x.waitsOn with
  | none => rfl
  | some w =>
    by_cases he : b.epoch = some w.2
    · simp [he, pendingIndex_none (h x hx w.1 w.2 hw he)]
    · simp [he]

/-- Step 1 of the choice takes the oldest held write whose entry is PENDING (R83). -/
theorem chooseCopy_held {xs ys : List HoldEntry} {h : HoldEntry} (hn : (b.dirty.map DirtyEntry.granule).Nodup)
    (hd : b.dirty[index]? = some d) (hp : d.state = .pending) (he : b.epoch = some e)
    (hw : h.waitsOn = some (d.granule, e))
    (hxs : ∀ x ∈ xs, ∀ g, x.waitsOn = some (g, e) → ∀ y ∈ b.dirty, y.granule = g → y.state ≠ .pending) :
    chooseCopy b (xs ++ h :: ys) = some (index, true) := by
  have hnone : chooseHeld b xs = none := by
    refine chooseHeld_none fun x hx g e' hxw he' => hxs x hx g ?_
    rw [he] at he'
    cases he'
    exact hxw
  have hheld : chooseHeld b (xs ++ h :: ys) = some index := by
    rw [chooseHeld, List.findSome?_append, ← chooseHeld, hnone, Option.none_or, List.findSome?_cons]
    simp only [hw, he, if_true, pendingIndex_eq hn hd hp]
  rw [chooseCopy, hheld]

/-- Step 2 takes the first PENDING entry (R83). -/
theorem chooseCopy_first (hd : b.dirty[index]? = some d) (hp : d.state = .pending) (hq : chooseHeld b q = none)
    (hfirst : ∀ m y, m < index → b.dirty[m]? = some y → y.state ≠ .pending) : chooseCopy b q = some (index, false) := by
  obtain ⟨hlt, hget⟩ := List.getElem?_eq_some_iff.1 hd
  have hpending : b.firstPending = some index :=
    List.findIdx?_eq_some_iff_getElem.2 ⟨hlt, by simp [hget, hp], fun m hm => by
      simpa using hfirst m b.dirty[m] hm (List.getElem?_eq_getElem (by omega))⟩
  rw [chooseCopy, hq, hpending]
  rfl

/-- A bank with a PENDING entry has an entry to copy. -/
theorem chooseCopy_isSome (h : b.firstPending.isSome = true) : (chooseCopy b q).isSome = true := by
  unfold chooseCopy
  split
  · rfl
  · rwa [Option.isSome_map]

end Choice

/-! ## One start -/

/-- The bridge with a copy of an entry started, before its reads are requested (R83, R86, R103). -/
def startedCopy (i : BankId) (index : Nat) (d : DirtyEntry) (urgent : Bool) (capacity : Nat) (s : State) : State :=
  setBank i { bank s i with
      dirty := (bank s i).dirty.set index { d with state := .copying }
      urgent := (bank s i).urgent + (if urgent then 1 else 0) }
    { s with
      rw := { s.rw with
        reserve := s.rw.reserve + 1
        position := (s.rw.position + 1) % capacity
        slots := s.rw.slots ++
          [{ seq := s.rw.reserve, position := s.rw.position, use := .dataSlot, progress := .reserved, record := none }]
        account := { s.rw.account with
          epoch := s.rw.account.epoch.or (bank s i).epoch
          firstData := s.rw.account.firstData.or (some s.rw.reserve)
          dataSlots := s.rw.account.dataSlots + 1 } }
      ce := { s.ce with copies := s.ce.copies ++
        [{ granule := d.granule, epoch := (bank s i).epoch.getD 0, index := index, seq := s.rw.reserve, urgent := urgent,
           cls := if urgent then .urgent else .background, resolved := 0, failed := 0, abandoned := false,
           data := List.replicate 16 [] }] } }

theorem accountData_eq (epoch : Option Nat) (q : Seq) (a : EpochAccount) :
    accountData epoch q a =
      { a with epoch := a.epoch.or epoch, firstData := a.firstData.or (some q), dataSlots := a.dataSlots + 1 } := by
  unfold accountData
  cases a.epoch <;> cases a.firstData <;> rfl

theorem pushUrgent_report (rs : List Request) (r : Report) (n : Nat) (s : State) :
    pushUrgent rs (report r n s) = report r n (pushUrgent rs s) := by
  have htm : (pushUrgent rs s).tm = s.tm := rfl
  simp only [report, reportBy, htm]
  split <;> rfl

section Start

variable {s : State} {i : BankId} {index : Nat} {d : DirtyEntry}

theorem startCopy_eq {byHold : Bool} {p : RingPlace} (hd : (bank s i).dirty[index]? = some d)
    (hp : s.rw.place = some p) :
    startCopy i index byHold s =
      if (byHold || decide (0 < d.held)) = true then
        pushUrgent (copyReadRequests d.granule s.rw.reserve) (report { event := .urgentCopies } 1
          (startedCopy i index d true p.capacity s))
      else pushBackground (copyReadRequests d.granule s.rw.reserve) (startedCopy i index d false p.capacity s) := by
  have hentry (u : Nat) : { (bank s i).setEntry index .copying with urgent := u } =
      { bank s i with dirty := (bank s i).dirty.set index { d with state := .copying }, urgent := u } := by
    have hmodify : (bank s i).dirty.modify index (fun d => { d with state := .copying }) =
        (bank s i).dirty.set index { d with state := .copying } := by
      rw [List.modify_eq_set_getElem?, hd]
      rfl
    rw [Bank.setEntry, hmodify]
  simp only [startCopy, hd]
  generalize (byHold || decide (0 < d.held)) = urgent
  have hcapacity : (s.rw.place.map RingPlace.capacity).getD 1 = p.capacity := by rw [hp]; rfl
  simp only [hentry, reserveSlot, accountData_eq, hcapacity]
  cases urgent <;> cases i <;> rfl

theorem startCopy_copies (byHold : Bool) (hd : (bank s i).dirty[index]? = some d) :
    (startCopy i index byHold s).ce.copies.length = s.ce.copies.length + 1 := by
  simp only [startCopy, hd]
  split <;> simp

end Start

/-! ## The starts one after another -/

/-- A condition of R83 fails. -/
def startsEnd (s : State) : Prop :=
  4 ≤ s.ce.copies.length ∨ freeSlots s.rw = 0 ∨
    ∀ j, (bank s j).state = .draining → ∀ d ∈ (bank s j).dirty, d.state ≠ .pending

section Starts

variable {s : State} {i : BankId} {index : Nat}

theorem startsEnd_iff (hinv : JournalInv s) :
    startsEnd s ↔ (wantsCopy s && decide (1 ≤ freeSlots s.rw)) = false := by
  rw [← not_iff_not, Bool.not_eq_false, Bool.and_eq_true, wantsCopy_iff hinv, decide_eq_true_eq, startsEnd]
  push Not
  constructor
  · exact fun ⟨hc, hf, hp⟩ => ⟨⟨hc, hp⟩, by omega⟩
  · exact fun ⟨⟨hc, hp⟩, hf⟩ => ⟨hc, by omega, hp⟩

theorem startCopiesUpTo_of_end (hinv : JournalInv s) (h : startsEnd s) (n : Nat) : startCopiesUpTo n s = s := by
  cases n with
  | zero => rfl
  | succ n => simp [startCopiesUpTo, (startsEnd_iff hinv).1 h]

/-- While no condition fails a copy of the chosen entry starts. -/
theorem startCopiesUpTo_of_choice {byHold : Bool} (hinv : JournalInv s) (hs : ¬ startsEnd s)
    (hi : (bank s i).state = .draining) (hc : chooseCopy (bank s i) s.ce.holdQueue = some (index, byHold)) (n : Nat) :
    startCopiesUpTo (n + 1) s = startCopiesUpTo n (startCopy i index byHold s) := by
  have hgo : (wantsCopy s && decide (1 ≤ freeSlots s.rw)) = true := by
    rwa [startsEnd_iff hinv, Bool.not_eq_false] at hs
  simp only [startCopiesUpTo, hgo, if_true, hinv.drainingBank_eq hi, hc]

/-- A start takes one of the four positions and keeps the journal in order. -/
theorem exists_choice (hinv : JournalInv s) (hs : ¬ startsEnd s) :
    ∃ i index byHold, (bank s i).state = .draining ∧ chooseCopy (bank s i) s.ce.holdQueue = some (index, byHold) ∧
      JournalInv (startCopy i index byHold s) ∧ (startCopy i index byHold s).ce.copies.length = s.ce.copies.length + 1 := by
  unfold startsEnd at hs
  push Not at hs
  obtain ⟨-, -, i, hi, hp⟩ := hs
  obtain ⟨⟨index, byHold⟩, hc⟩ :=
    Option.isSome_iff_exists.1 (chooseCopy_isSome (q := s.ce.holdQueue) (firstPending_isSome.2 hp))
  obtain ⟨d, hd, -⟩ := chooseCopy_pending hc
  exact ⟨i, index, byHold, hi, hc, hinv.keeps (startCopy_keeps ..), startCopy_copies byHold hd⟩

theorem startsEnd_of_full (h : 4 ≤ s.ce.copies.length) : startsEnd s := .inl h

/-- With a start for every free position the starts end by a condition. -/
theorem startsEnd_startCopiesUpTo (n : Nat) (hinv : JournalInv s) (hn : 4 ≤ s.ce.copies.length + n) :
    startsEnd (startCopiesUpTo n s) := by
  induction n generalizing s with
  | zero => exact startsEnd_of_full hn
  | succ n ih =>
    by_cases hs : startsEnd s
    · rwa [startCopiesUpTo_of_end hinv hs]
    · obtain ⟨i, index, byHold, hi, hc, hkept, hlen⟩ := exists_choice hinv hs
      rw [startCopiesUpTo_of_choice hinv hs hi hc]
      exact ih hkept (by omega)

/-- More than a start for every free position is no more. -/
theorem startCopiesUpTo_succ_of_enough (n : Nat) (hinv : JournalInv s) (hn : 4 ≤ s.ce.copies.length + n) :
    startCopiesUpTo (n + 1) s = startCopiesUpTo n s := by
  induction n generalizing s with
  | zero => exact startCopiesUpTo_of_end hinv (startsEnd_of_full hn) 1
  | succ n ih =>
    by_cases hs : startsEnd s
    · rw [startCopiesUpTo_of_end hinv hs, startCopiesUpTo_of_end hinv hs]
    · obtain ⟨i, index, byHold, hi, hc, hkept, hlen⟩ := exists_choice hinv hs
      rw [startCopiesUpTo_of_choice hinv hs hi hc, startCopiesUpTo_of_choice hinv hs hi hc]
      exact ih hkept (by omega)

/-- The first start, and then the others. -/
theorem startCopies_of_choice {byHold : Bool} (hinv : JournalInv s) (hs : ¬ startsEnd s)
    (hi : (bank s i).state = .draining) (hc : chooseCopy (bank s i) s.ce.holdQueue = some (index, byHold)) :
    startCopies s = startCopies (startCopy i index byHold s) := by
  obtain ⟨d, hd, -⟩ := chooseCopy_pending hc
  have hlen := startCopy_copies byHold hd
  calc startCopies s = startCopiesUpTo 3 (startCopy i index byHold s) := startCopiesUpTo_of_choice hinv hs hi hc 3
    _ = startCopies (startCopy i index byHold s) :=
      (startCopiesUpTo_succ_of_enough 3 (hinv.keeps (startCopy_keeps ..)) (by omega)).symm

end Starts

/-- Settles O42: the four positions bound the starts (`startsEnd_startCopiesUpTo`), the choice is `chooseCopy_held` or
`chooseCopy_first`, and one start is `startCopy_eq`. -/
theorem copiesStart : Obligations.CopiesStart := by
  rintro s i k hinv hl rfl
  refine ⟨?_, fun h => startCopiesUpTo_of_end hinv h 4, fun index d hi hlen hfree hd hp => ?_, ?_⟩
  · rintro t rfl
    exact startsEnd_startCopiesUpTo 4 hinv (by omega)
  · have hgo : ¬ startsEnd s := by
      rintro (h | h | h)
      · omega
      · omega
      · exact h i hi d (List.mem_of_getElem? hd) hp
    refine ⟨fun xs ys h e hq he hw hxs => ?_, fun hnone hfirst => ?_⟩
    · refine startCopies_of_choice hinv hgo hi ?_
      rw [hq]
      exact chooseCopy_held (hl.lists i).listedOnce hd hp he hw hxs
    · exact startCopies_of_choice hinv hgo hi (chooseCopy_first hd hp (chooseHeld_none hnone) hfirst)
  · rintro index byHold urgent d p q reads u hd hplace rfl hurgent rfl rfl
    have hbool : (byHold || decide (0 < d.held)) = urgent := by
      rw [Bool.eq_iff_iff, Bool.or_eq_true, decide_eq_true_eq, hurgent]
    rw [startCopy_eq hd hplace, hbool]
    refine ⟨?_, ?_⟩
    · rintro rfl
      rw [if_pos rfl, pushUrgent_report]
      rfl
    · rintro rfl
      rw [if_neg (by simp)]
      rfl

end Sys2Proof.Safety


/-! # The records handed to the Ring Writer (R89, R97, R104, R105, R107, R108, R188) -/

namespace Sys2Proof.Safety

open Sys2Proof.Machine

/-! ## Headers -/

theorem sealHeader_length {body : List Byte} (h : body.length = 60) : (sealHeader body).length = 64 := by
  simp [sealHeader, h]

theorem headerStart_eq (kind flags : Nat) (q : Seq) (epoch : Nat) :
    headerStart kind flags q epoch =
      [0x4B#8, 0x52#8, BitVec.ofNat 8 kind, BitVec.ofNat 8 flags] ++ beBytes 4 q.toNat ++ beBytes 4 epoch := by
  simp [headerStart, beBytes_one]

theorem headerStart_length (kind flags : Nat) (q : Seq) (epoch : Nat) : (headerStart kind flags q epoch).length = 12 := by
  simp [headerStart]

theorem dataHeader_length (q : Seq) (epoch granule : Nat) (urgent : Bool) (crc : BitVec 32) :
    (dataHeader q epoch granule urgent crc).length = 64 := sealHeader_length (by simp [headerStart_length])

theorem voidHeader_length (q : Seq) (epoch granule : Nat) : (voidHeader q epoch granule).length = 64 :=
  sealHeader_length (by simp [headerStart_length])

theorem endHeader_length (q : Seq) (b : Bank) (acc : EpochAccount) : (endHeader q b acc).length = 64 :=
  sealHeader_length (by simp [headerStart_length, seqBytes])

theorem dataHeader_eq (q : Seq) (epoch granule : Nat) (urgent : Bool) (crc : BitVec 32) :
    dataHeader q epoch granule urgent crc = sealHeader
      ([0x4B#8, 0x52#8, 1#8, if urgent then 1#8 else 0#8] ++ beBytes 4 q.toNat ++ beBytes 4 epoch ++ beBytes 4 granule ++
        beBytes 4 crc.toNat ++ List.replicate 40 0#8) := by
  have hflag : BitVec.ofNat 8 (bits [urgent]) = if urgent then 1#8 else 0#8 := by cases urgent <;> rfl
  rw [dataHeader, headerStart_eq, hflag]

theorem voidHeader_eq (q : Seq) (epoch granule : Nat) :
    voidHeader q epoch granule = sealHeader
      ([0x4B#8, 0x52#8, 2#8, 0#8] ++ beBytes 4 q.toNat ++ beBytes 4 epoch ++ beBytes 4 granule ++
        List.replicate 44 0#8) := by
  rw [voidHeader, headerStart_eq]

theorem endHeader_eq {q : Seq} {b : Bank} {acc : EpochAccount} {e : Nat} (he : b.epoch = some e) :
    endHeader q b acc = sealHeader
      ([0x4B#8, 0x52#8, 3#8, BitVec.ofNat 8 (b.power.toNat + 2 * b.portReset.toNat + 4 * acc.firstData.isSome.toNat)] ++
        beBytes 4 q.toNat ++ beBytes 4 e ++
        [BitVec.ofNat 8 (epochStatus b.damage b.spill).code, BitVec.ofNat 8 (damageCode b.damage),
          BitVec.ofNat 8 b.spill.length, 0#8] ++
        beBytes 2 b.listed ++ beBytes 2 b.copied ++ beBytes 2 b.skipped ++ beBytes 2 b.urgent ++
        beBytes 4 (acc.firstData.getD 0).toNat ++ beBytes 2 acc.dataSlots ++ List.replicate 30 0#8) := by
  have hflags : bits [b.power, b.portReset, acc.firstData.isSome] =
      b.power.toNat + 2 * b.portReset.toNat + 4 * acc.firstData.isSome.toNat := by
    simp only [bits]
    omega
  have hfirst : seqBytes acc.firstData = beBytes 4 (acc.firstData.getD 0).toNat := by cases acc.firstData <;> rfl
  rw [endHeader, headerStart_eq, hflags, hfirst, he]
  simp [beBytes_one]

/-! ## The spill area (R108) -/

section Blocks

variable {α β : Type} {f : α → List β} {c : Nat}

theorem drop_flatMap_of_length (hf : ∀ x, (f x).length = c) (n : Nat) (l : List α) :
    (l.flatMap f).drop (n * c) = (l.drop n).flatMap f := by
  induction n generalizing l with
  | zero => simp
  | succ n ih =>
    cases l with
    | nil => simp
    | cons x xs =>
      rw [List.flatMap_cons, List.drop_append, hf, List.drop_eq_nil_of_le (by rw [hf]; exact Nat.le_mul_of_pos_left c n.succ_pos),
        List.nil_append, Nat.succ_mul, Nat.add_sub_cancel, ih, List.drop_succ_cons]

theorem take_flatMap_of_length (hf : ∀ x, (f x).length = c) (n : Nat) (l : List α) :
    (l.flatMap f).take (n * c) = (l.take n).flatMap f := by
  induction n generalizing l with
  | zero => simp
  | succ n ih =>
    cases l with
    | nil => simp
    | cons x xs =>
      rw [List.flatMap_cons, List.take_append, hf, List.take_of_length_le (by rw [hf]; exact Nat.le_mul_of_pos_left c n.succ_pos),
        Nat.succ_mul, Nat.add_sub_cancel, ih, List.take_succ_cons, List.flatMap_cons]

theorem length_flatMap_of_length (hf : ∀ x, (f x).length = c) (l : List α) : (l.flatMap f).length = l.length * c := by
  simp [List.length_flatMap, hf]

end Blocks

theorem spillRecord_eq (e : SpillEntry) :
    spillRecord e = BitVec.ofNat 8 e.window :: 0#8 :: 0#8 :: 0#8 ::
      (beBytes 4 e.low ++ beBytes 4 e.high ++ [0#8, 0#8, 0#8, 0#8]) := by
  simp [spillRecord, beBytes_one, List.replicate]

theorem spillRecord_length (e : SpillEntry) : (spillRecord e).length = 16 := by simp [spillRecord]

/-- The spill writes cut one area, zero after its last entry, into pieces of 256 bytes. -/
theorem spillBlock_eq {spill : List SpillEntry} {k : Nat} (hk : k < (spill.length + 15) / 16) :
    spillBlock spill k = ((spill.flatMap spillRecord ++ List.replicate 256 0#8).drop (k * 256)).take 256 := by
  have hlen : (spill.flatMap spillRecord).length = spill.length * 16 := length_flatMap_of_length spillRecord_length spill
  have hdrop : (spill.flatMap spillRecord).drop (k * 256) = (spill.drop (16 * k)).flatMap spillRecord := by
    rw [← drop_flatMap_of_length spillRecord_length]
    congr 1
    omega
  have htake : ((spill.drop (16 * k)).flatMap spillRecord).take 256 = ((spill.drop (16 * k)).take 16).flatMap spillRecord :=
    take_flatMap_of_length spillRecord_length 16 _
  have hrest : k * 256 - (spill.flatMap spillRecord).length = 0 := by omega
  rw [List.drop_append, hdrop, hrest, List.drop_zero, List.take_append, htake, List.take_replicate, spillBlock]
  simp only [length_flatMap_of_length spillRecord_length, List.length_take, List.length_drop, Config.burstBytes]
  congr 2
  omega

/-! ## The hand-over of a record -/

/-- A record handed to a slot with its first writes (R102, R145). -/
def handed (q : Seq) (w : RecordWrite) (rs : List Request) (s : State) : State := pushBackground rs (startRecord q w s)

section HandOver

variable {s : State} {x : Slot}

theorem handOverData_eq {c : CopyOp} (hx : findSlot c.seq s = some x) :
    handOverData c s = handed c.seq
      { kind := .data, granule := some c.granule, header := dataHeader c.seq c.epoch c.granule c.urgent (crc32 c.data.flatten),
        areaWrites := 16, resolved := 0, failed := 0 }
      ((List.range 16).map fun j => recordRequest s x.position (64 + j * 256) (.dataWrite c.seq j) (c.data.getD j []) 256) s := by
  simp only [handOverData, hx]
  rfl

theorem handOverVoid_eq {c : CopyOp} (hx : findSlot c.seq s = some x) :
    handOverVoid c s = handed c.seq
      { kind := .void, granule := some c.granule, header := voidHeader c.seq c.epoch c.granule, areaWrites := 0, resolved := 0,
        failed := 0 }
      [recordRequest s x.position 0 (.voidHeader c.seq) (voidHeader c.seq c.epoch c.granule) 64] s := by
  simp only [handOverVoid, hx, headerRequest, (findSlot_some hx).2]
  rfl

/-- The record of an END slot (R108). -/
def endRecord (b : Bank) (q : Seq) (acc : EpochAccount) : RecordWrite :=
  { kind := .ending, granule := none, header := endHeader q b acc, areaWrites := (b.spill.length + 15) / 16, resolved := 0,
    failed := 0 }

theorem composeEnd_header {b : Bank} (h : b.spill = []) :
    composeEnd b x s = handed x.seq (endRecord b x.seq s.rw.account)
      [recordRequest s x.position 0 (.endHeader x.seq) (endHeader x.seq b s.rw.account) 64] s := by
  simp only [composeEnd, endRecord, spillWrites, h]
  rfl

theorem composeEnd_spill {b : Bank} (h : b.spill ≠ []) :
    composeEnd b x s = handed x.seq (endRecord b x.seq s.rw.account)
      ((List.range ((b.spill.length + 15) / 16)).map fun j =>
        recordRequest s x.position (64 + j * 256) (.endSpill x.seq j) (spillBlock b.spill j) 256) s := by
  have hpos : spillWrites b.spill.length ≠ 0 := by
    have := List.length_pos_of_ne_nil h
    rw [spillWrites]
    omega
  simp only [composeEnd, if_neg hpos]
  rfl

theorem writeEndIfReady_reserved {i : BankId} (hq : s.rw.account.endSeq = some x.seq) (hi : cutBank s = some i)
    (hx : findSlot x.seq s = some x) (hu : x.use = .endSlot) (hp : x.progress = .reserved) :
    writeEndIfReady s = if s.rw.filled = x.seq then composeEnd (bank s i) x s else s := by
  simp only [writeEndIfReady, hq, hi, hx, hu, hp, and_true]

theorem recordRequest_eq {p : RingPlace} (hp : s.rw.place = some p) (position offset : Nat) (src : Source) (data : List Byte)
    (n : Nat) :
    recordRequest s position offset src data n =
      { source := src, address := p.base + position * 4160 + offset, size := n, data := data,
        strobes := List.replicate n true, exclusive := false, initiator := none, domain := none, window := none } := by
  rw [recordRequest, hp]
  rfl

theorem reserveEnd_eq {p : RingPlace} (hp : s.rw.place = some p) :
    reserveEnd s = writeEndIfReady { s with rw := { s.rw with
      reserve := s.rw.reserve + 1
      position := (s.rw.position + 1) % p.capacity
      slots := s.rw.slots ++
        [{ seq := s.rw.reserve, position := s.rw.position, use := .endSlot, progress := .reserved, record := none }]
      account := { s.rw.account with endSeq := some s.rw.reserve } } } := by
  have hcapacity : (s.rw.place.map RingPlace.capacity).getD 1 = p.capacity := by rw [hp]; rfl
  simp only [reserveEnd, reserveSlot, hcapacity]

end HandOver

/-- Settles O45: each record's header and writes by its own equation (`handOverData_eq`, `handOverVoid_eq`,
`composeEnd_header`, `composeEnd_spill`), and the request of the END record by `requestEnd_eq`. -/
theorem recordsHandedOver : Obligations.RecordsHandedOver := by
  intro s p x write sealed handedOver hinv hplace hx hwrite hsealed hhanded
  obtain rfl : sealed = sealHeader := funext hsealed
  have hrequest (offset : Nat) (src : Source) (data : List Byte) (n : Nat) :
      recordRequest s x.position offset src data n = write src offset n data := by
    rw [hwrite, recordRequest_eq hplace]
  obtain rfl : handedOver = fun w rs => handed x.seq w rs s := funext fun w => funext fun rs => hhanded w rs
  refine ⟨fun c header hc hh => ?_, fun c header hc hh => ?_, ?_, fun e account ha => ⟨fun hf => ?_, fun hf => ?_⟩⟩
  · obtain rfl : header = dataHeader c.seq c.epoch c.granule c.urgent (crc32 c.data.flatten) :=
      hh.trans (dataHeader_eq ..).symm
    refine ⟨dataHeader_length .., ?_⟩
    rw [handOverData_eq (hc ▸ hx), hc]
    simp only [hrequest]
  · obtain rfl : header = voidHeader c.seq c.epoch c.granule := hh.trans (voidHeader_eq ..).symm
    refine ⟨voidHeader_length .., ?_⟩
    rw [handOverVoid_eq (hc ▸ hx), hc]
    simp only [hrequest]
  · rintro i k e header area rfl hi he hq hu hp hh ha
    obtain rfl : header = endHeader x.seq (bank s i) s.rw.account := hh.trans (endHeader_eq he).symm
    have hready := writeEndIfReady_reserved hq (hinv.cutBank_eq hi) hx hu hp
    refine ⟨endHeader_length .., fun hn => ?_, fun hf hnil => ?_, fun hf hspill => ?_⟩
    · rw [hready, if_neg hn]
    · rw [hready, if_pos hf, composeEnd_header hnil, endRecord, hnil]
      simp only [hrequest]
      rfl
    · rw [hready, if_pos hf, composeEnd_spill hspill, endRecord]
      have harea : area = (bank s i).spill.flatMap spillRecord ++ List.replicate 256 0#8 := by
        rw [ha, funext spillRecord_eq]
      have hblocks : ((List.range (((bank s i).spill.length + 15) / 16)).map fun j =>
          recordRequest s x.position (64 + j * 256) (.endSpill x.seq j) (spillBlock (bank s i).spill j) 256) =
          (List.range (((bank s i).spill.length + 15) / 16)).map fun j =>
            write (.endSpill x.seq j) (64 + j * 256) 256 ((area.drop (j * 256)).take 256) := by
        refine List.map_congr_left fun j hj => ?_
        rw [hrequest, spillBlock_eq (List.mem_range.1 hj), harea]
      rw [hblocks]
  · rw [requestEnd_eq, if_neg (by omega), ha]
  · rw [requestEnd_eq, if_pos hf, ha]
    exact reserveEnd_eq (p := p) hplace

end Sys2Proof.Safety


/-! # The record writes taken (R89, R92, R104, R106, R108, R109) -/

namespace Sys2Proof.Safety

open Sys2Proof.Machine

/-! ## The response of a record write -/

/-- A write of an area: a data write of a DATA record or a spill write of an END record (R97). -/
def Source.IsAreaWrite (src : Source) (q : Seq) : Prop := ∃ k, src = .dataWrite q k ∨ src = .endSpill q k

/-- The write of a header, of a record of any kind (R97). -/
def Source.IsHeaderWrite (src : Source) (q : Seq) : Prop := src = .dataHeader q ∨ src = .voidHeader q ∨ src = .endHeader q

section Response

variable {t : Tag} {q : Seq}

theorem direction_of_areaWrite (h : Source.IsAreaWrite t.source q) : t.source.direction = .write := by
  obtain ⟨k, h | h⟩ := h <;> rw [h] <;> rfl

theorem direction_of_headerWrite (h : Source.IsHeaderWrite t.source q) : t.source.direction = .write := by
  rcases h with h | h | h <;> rw [h] <;> rfl

theorem requestOkay_areaWrite (h : Source.IsAreaWrite t.source q) (r : Response) (s : State) :
    requestOkay t r s = resolveArea q false s := by
  obtain ⟨k, h | h⟩ := h <;> rw [requestOkay, h]

theorem requestOkay_headerWrite (h : Source.IsHeaderWrite t.source q) (r : Response) (s : State) :
    requestOkay t r s = finishSlot q s := by
  rcases h with h | h | h <;> rw [requestOkay, h]

theorem requestFailed_areaWrite (h : Source.IsAreaWrite t.source q) (kind : FaultKind) (reason : DamageReason) (s : State) :
    requestFailed t kind reason s = resolveArea q true (recordFailed q t.address s) := by
  obtain ⟨k, h | h⟩ := h <;> rw [requestFailed, h]

theorem requestFailed_headerWrite (h : Source.IsHeaderWrite t.source q) (kind : FaultKind) (reason : DamageReason)
    (s : State) : requestFailed t kind reason s = finishSlot q (recordFailed q t.address s) := by
  rcases h with h | h | h <;> rw [requestFailed, h]

/-- An expiry that is due is a failure of its request, after the report of it (R154). -/
theorem expireResponse_due {n limit elapsed : Nat} {s : State} (ht : findTag n s = some t)
    (ho : t.state = .outstanding limit elapsed) (hle : limit ≤ elapsed) :
    expireResponse n s = requestFailed t .downstreamTimeout .copyTimeout
      (report { event := .dsTimeouts, domain := t.domain, window := t.window, direction := some t.source.direction } 1
        (expireTag n s)) := by
  have hdue : t.due = true := by simpa [Tag.due, ho] using hle
  simp only [expireResponse, ht, hdue, if_true]

/-- A failed record write damages the one cut bank and reports COPY_FAILED with the granule of its record (R92). -/
theorem recordFailed_eq {s u : State} {x : Slot} {w : RecordWrite} {i : BankId} (hinv : JournalInv s) (hju : u.ju = s.ju)
    (hrw : u.rw = s.rw) (hx : findSlot q s = some x) (hw : x.record = some w) (hi : (bank s i).state.isCut = true)
    (address : Nat) :
    recordFailed q address u =
      reportFault .copyFailed { memory := some address, granule := w.granule } (damageBank i .recordWrite u) := by
  have hcut : cutBank u = some i := (findBank_congr _ hju).trans (hinv.cutBank_eq hi)
  have hslot : findSlot q u = some x := by rw [findSlot, hrw]; exact hx
  simp only [recordFailed, failWork, hcut, recordGranule, hslot, hw]
  rfl

end Response

/-! ## The area of a record -/

section Area

variable {s : State} {q : Seq} {x : Slot} {w : RecordWrite}

/-- One more write of the area of a record resolved (R89, R104). -/
def countResolved (failed : Bool) (w : RecordWrite) : RecordWrite :=
  { w with resolved := w.resolved + 1, failed := w.failed + failed.toNat }

theorem resolveArea_eq (hx : findSlot q s = some x) (hw : x.record = some w) (failed : Bool) :
    resolveArea q failed s =
      let counted := changeSlot q (fun y => { y with record := some (countResolved failed w) }) s
      if w.resolved + 1 = w.areaWrites then
        if (countResolved failed w).failed = 0 then pushBackground [headerRequest counted x (countResolved failed w)] counted
        else finishSlot q counted
      else counted := by
  simp only [resolveArea, hx, hw]
  rfl

theorem headerRequest_eq {p : RingPlace} (hp : s.rw.place = some p) :
    headerRequest s x w =
      { source := match w.kind with
          | .data => .dataHeader x.seq
          | .void => .voidHeader x.seq
          | .ending => .endHeader x.seq
        address := p.base + x.position * 4160, size := 64, data := w.header, strobes := List.replicate 64 true,
        exclusive := false, initiator := none, domain := none, window := none } := by
  rw [headerRequest, recordRequest_eq hp]
  rfl

end Area

/-! ## The advance of filled (R106) -/

section Advance

variable {capacity position : Nat} {q : Seq}

theorem slotsFrom_map {f : Slot → Slot} (hf : ∀ y, (f y).seq = y.seq ∧ (f y).position = y.position) {xs : List Slot}
    (h : SlotsFrom capacity position q xs) : SlotsFrom capacity position q (xs.map f) := by
  induction xs generalizing q with
  | nil => exact h
  | cons x xs ih =>
    obtain ⟨hseq, hposition, hplace, hrest⟩ := h
    obtain ⟨hfseq, hfposition⟩ := hf x
    exact ⟨hfseq.trans hseq, by rwa [hfposition], by rwa [hfposition, List.length_map], ih hrest⟩

/-- Slots in sequence order are passed exactly while they are DONE. -/
theorem advanceFilled_append {passed rest : List Slot} (hs : SlotsFrom capacity position q (passed ++ rest))
    (hdone : ∀ y ∈ passed, y.progress = .done) (hrest : ∀ y ys, rest = y :: ys → y.progress ≠ .done) :
    advanceFilled q (passed ++ rest) =
      (q + BitVec.ofNat 32 passed.length, rest, passed.any fun y => decide (y.use = .endSlot)) := by
  induction passed generalizing q with
  | nil =>
    cases rest with
    | nil => simp [advanceFilled]
    | cons y ys => simp [advanceFilled_cons, hrest y ys rfl]
  | cons x xs ih =>
    obtain ⟨hseq, -, -, htail⟩ := hs
    have hlength : q + 1 + BitVec.ofNat 32 xs.length = q + BitVec.ofNat 32 (xs.length + 1) := by
      rw [BitVec.add_assoc, Nat.add_comm, BitVec.ofNat_add]
      rfl
    rw [List.cons_append, advanceFilled_cons, if_pos ⟨hseq, hdone x List.mem_cons_self⟩,
      ih htail (fun y hy => hdone y (List.mem_cons_of_mem x hy)), hlength, List.length_cons, List.any_cons]

/-- A slot that becomes DONE moves filled over the run that it completes, and closes the epoch when an END slot is in the run
(R106, R109). -/
theorem finishSlot_eq {s : State} {p : RingPlace} {passed rest : List Slot} (hinv : RingInv s) (hp : s.rw.place = some p)
    (hslots : (s.rw.slots.map fun y => if y.seq = q then { y with progress := .done } else y) = passed ++ rest)
    (hdone : ∀ y ∈ passed, y.progress = .done) (hrest : ∀ y ys, rest = y :: ys → y.progress ≠ .done) :
    finishSlot q s =
      let z := writeEndIfReady { s with rw := { s.rw with
        filled := s.rw.filled + BitVec.ofNat 32 passed.length, slots := rest } }
      if passed.any fun y => decide (y.use = .endSlot) then closeEpoch z else z := by
  have hfrom : SlotsFrom p.capacity s.rw.position s.rw.filled (passed ++ rest) := by
    rw [← hslots]
    refine slotsFrom_map (fun y => ?_) (hinv.slots p hp)
    split <;> exact ⟨rfl, rfl⟩
  simp only [finishSlot, changeSlot_rw, hslots, advanceFilled_append hfrom hdone hrest]
  rfl

end Advance

/-- Settles O46: a response or a due expiry reaches the source of its write (`requestOkay_areaWrite`,
`requestFailed_headerWrite` and their like), a failure through `recordFailed_eq`; the area counts by `resolveArea_eq` and the
ring advances by `finishSlot_eq`. -/
theorem recordWriteTaken : Obligations.RecordWriteTaken := by
  rintro s t r q limit elapsed x w i p u v fault hr hinv hring hplace ht ho hx hw hi rfl hv hfault
  have hdrop : recordFailed q t.address (dropTag r.tag s) = fault (dropTag r.tag s) := by
    rw [recordFailed_eq (u := dropTag r.tag s) hinv rfl rfl hx hw hi, hfault]
  have hexpired : recordFailed q t.address v = fault v := by
    rw [recordFailed_eq hinv (by rw [hv]; simp) (by rw [hv]; simp) hx hw hi, hfault]
  obtain ⟨hokay, herror⟩ := takeResponse_outstanding ht ho
  have hexpiry (hle : limit ≤ elapsed) (hdir : t.source.direction = .write) :
      expireResponse r.tag s = requestFailed t .downstreamTimeout .copyTimeout v := by
    rw [expireResponse_due ht ho hle, hdir, hv]
    rfl
  have hexecOkay : exec (.responseOkay r) s = .next (raiseRingLow s (takeResponse .okay r s)) := event_high hr
  have hexecError : exec (.responseError r) s = .next (raiseRingLow s (takeResponse .error r s)) := event_high hr
  have hexecExpiry : exec (.responseTimerExpiry r.tag) s = .next (raiseRingLow s (expireResponse r.tag s)) := event_high hr
  refine ⟨fun harea => ⟨?_, fun hle => ?_, ?_⟩, fun hheader => ⟨?_, fun hle => ?_, ?_⟩, ?_, ?_⟩
  · rw [hexecError, herror, requestFailed_areaWrite harea, hdrop]
    rfl
  · rw [hexecExpiry, hexpiry hle (direction_of_areaWrite harea), requestFailed_areaWrite harea, hexpired]
  · rw [hexecOkay, hokay, requestOkay_areaWrite harea]
    rfl
  · rw [hexecError, herror, requestFailed_headerWrite hheader, hdrop]
    rfl
  · rw [hexecExpiry, hexpiry hle (direction_of_headerWrite hheader), requestFailed_headerWrite hheader, hexpired]
  · rw [hexecOkay, hokay, requestOkay_headerWrite hheader]
    rfl
  · rintro failed w' counted hw' rfl
    obtain rfl : w' = countResolved failed w := by rw [hw']; cases failed <;> rfl
    have harea := resolveArea_eq hx hw failed
    refine ⟨fun hn => ?_, fun heq hbad => ?_, fun heq hgood => ?_⟩
    · rw [harea]
      exact if_neg hn
    · rw [harea, if_pos heq]
      exact if_neg (Nat.ne_of_gt hbad)
    · rw [harea, if_pos heq, if_pos hgood, headerRequest_eq (p := p), (findSlot_some hx).2]
      · rfl
      · exact hplace
  · rintro slots passed rest z hslots hsplit hdone hrest rfl
    have hfinish := finishSlot_eq hring hplace (hslots.symm.trans hsplit) hdone hrest
    refine ⟨fun hend => ?_, fun hnone => ?_⟩
    · rw [hfinish]
      exact if_pos (by simpa using hend)
    · rw [hfinish]
      exact if_neg (by simpa using hnone)

end Sys2Proof.Safety

/-! # The ring's invariant beside each move of the Ring Writer (R100 to R102, R106, R107) -/

namespace Sys2Proof.Safety

open Sys2Proof.Machine

/-! ## Sequences and positions -/

theorem seq_succ_add (q : Seq) (n : Nat) : q + 1 + BitVec.ofNat 32 n = q + BitVec.ofNat 32 (n + 1) := by
  rw [BitVec.add_assoc, Nat.add_comm, BitVec.ofNat_add]
  rfl

/-- An index that advances less than once around is that much further from the one behind it (R100). -/
theorem toNat_advance_sub {a b : Seq} {n : Nat} (h : (a - b).toNat + n < 2 ^ 32) :
    (a + BitVec.ofNat 32 n - b).toNat = (a - b).toNat + n := by
  bv_omega

/-- The index behind that advances, at most up to the other, comes that much closer (R110). -/
theorem toNat_sub_advance {a b : Seq} {n : Nat} (h : n ≤ (a - b).toNat) :
    (a - (b + BitVec.ofNat 32 n)).toNat = (a - b).toNat - n := by
  bv_omega

section Slots

variable {capacity position : Nat} {q : Seq}

/-- The slot reserved next takes the next sequence and the next position (R100, R101). -/
theorem slotsFrom_append {xs : List Slot} {x : Slot} (h : SlotsFrom capacity position q xs) (hp : position < capacity)
    (hseq : x.seq = q + BitVec.ofNat 32 xs.length) (hx : x.position = position) :
    SlotsFrom capacity ((position + 1) % capacity) q (xs ++ [x]) := by
  induction xs generalizing q with
  | nil => exact ⟨by simpa using hseq, hx ▸ hp, by simp [hx], trivial⟩
  | cons y ys ih =>
    obtain ⟨hy, hlt, hplace, hrest⟩ := h
    have hnext : (y.position + (ys ++ [x]).length + 1) % capacity = (position + 1) % capacity := by
      rw [List.length_append, List.length_singleton, ← hplace, Nat.mod_add_mod, ← Nat.add_assoc]
    exact ⟨hy, hlt, hnext, ih hrest (hseq.trans (seq_succ_add q ys.length).symm)⟩

/-- The slots behind those that are passed begin at the sequence after them (R106). -/
theorem slotsFrom_drop {xs ys : List Slot} (h : SlotsFrom capacity position q (xs ++ ys)) :
    SlotsFrom capacity position (q + BitVec.ofNat 32 xs.length) ys := by
  induction xs generalizing q with
  | nil => simpa using h
  | cons x xs ih =>
    obtain ⟨-, -, -, hrest⟩ := h
    rw [List.length_cons, ← seq_succ_add]
    exact ih hrest

end Slots

/-! ## The moves -/

section Moves

variable {s t : State}

/-- The invariant reads the Ring Writer alone, and there neither the threshold nor the account. -/
theorem RingInv.of_account {low : Nat} {a : EpochAccount} (h : RingInv s)
    (he : t.rw = { s.rw with lowThreshold := low, account := a }) : RingInv t := by
  constructor <;> rw [he]
  exacts [h.unplaced, h.capacity, h.used, h.unfilled, h.position, h.slots, h.headNotDone, h.markerWaits]

theorem RingInv.of_rw (h : RingInv s) (he : t.rw = s.rw) : RingInv t :=
  h.of_account (low := s.rw.lowThreshold) (a := s.rw.account) he

/-- A marker waits only without a free slot (R107). -/
theorem RingInv.noMarker (h : RingInv s) (hf : 1 ≤ freeSlots s.rw) : ¬ s.rw.pendingEnd.isSome = true := fun hm => by
  have := h.markerWaits hm
  omega

/-- The Ring Sequence is that of the slot after the last (R100, R102). -/
theorem RingInv.reserve_eq (h : RingInv s) : s.rw.reserve = s.rw.filled + BitVec.ofNat 32 s.rw.slots.length := by
  have := h.unfilled
  generalize s.rw.slots.length = n at this ⊢
  bv_omega

/-- A ring that is placed anew, or taken away, is empty (R98, R99). -/
theorem ringInv_placeRing {place : Option RingPlace} (hc : ∀ p, place = some p → 2 ≤ p.capacity ∧ p.capacity ≤ 65535)
    (s : State) : RingInv (placeRing place s) where
  unplaced _ := ⟨rfl, rfl, rfl, rfl, rfl⟩
  capacity := hc
  used p _ := by simp [placeRing, resetRingWriter]
  unfilled := by simp [placeRing, resetRingWriter]
  position p hp := Nat.lt_of_lt_of_le Nat.zero_lt_two (hc p hp).1
  slots _ _ := trivial
  headNotDone _ _ hx := nomatch hx
  markerWaits hm := nomatch hm

/-- A free slot is reserved (R100 to R102). -/
theorem RingInv.reserveSlot (h : RingInv s) (hf : 1 ≤ freeSlots s.rw) (use : SlotUse) :
    RingInv (Machine.reserveSlot use s) := by
  obtain ⟨p, hp⟩ := freeSlots_pos hf
  have hfree : (s.rw.reserve - s.rw.release).toNat < p.capacity := by
    rw [freeSlots, hp] at hf
    dsimp only at hf
    omega
  have hcapacity := (h.capacity p hp).2
  have hused : (s.rw.reserve + 1 - s.rw.release).toNat = (s.rw.reserve - s.rw.release).toNat + 1 :=
    toNat_advance_sub (n := 1) (by omega)
  have hposition := h.position p hp
  have hplace {r : RingPlace} (hr : (Machine.reserveSlot use s).rw.place = some r) : r = p :=
    Option.some.inj (hr.symm.trans hp)
  have hmod : (s.rw.place.map RingPlace.capacity).getD 1 = p.capacity := by rw [hp]; rfl
  constructor
  case unplaced => exact fun hn => nomatch hp.symm.trans hn
  case capacity => exact h.capacity
  case used =>
    intro r hr
    rw [hplace hr]
    exact hused.trans_le hfree
  case unfilled =>
    have := h.unfilled
    simp only [Machine.reserveSlot, List.length_append, List.length_singleton, hused]
    omega
  case position =>
    intro r hr
    simp only [Machine.reserveSlot, hmod, hplace hr]
    exact Nat.mod_lt _ (by omega)
  case slots =>
    intro r hr
    simp only [Machine.reserveSlot, hmod, hplace hr]
    exact slotsFrom_append (h.slots p hp) hposition h.reserve_eq rfl
  case headNotDone =>
    intro x xs hx
    cases hs : s.rw.slots with
    | nil =>
      simp only [Machine.reserveSlot, hs, List.nil_append, List.cons.injEq] at hx
      exact hx.1 ▸ nofun
    | cons y ys =>
      simp only [Machine.reserveSlot, hs, List.cons_append, List.cons.injEq] at hx
      exact hx.1 ▸ h.headNotDone y ys hs
  case markerWaits => exact fun hm => absurd hm (h.noMarker hf)

/-- A slot changes in place, and none becomes DONE by it (R102). -/
theorem RingInv.changeSlot {f : Slot → Slot} (h : RingInv s)
    (hf : ∀ y, (f y).seq = y.seq ∧ (f y).position = y.position) (hd : ∀ y, y.progress ≠ .done → (f y).progress ≠ .done)
    (q : Seq) : RingInv (Machine.changeSlot q f s) := by
  constructor
  case unplaced =>
    intro hn
    obtain ⟨h1, h2, h3, h4, hs⟩ := h.unplaced hn
    exact ⟨h1, h2, h3, h4, by simp [hs]⟩
  case capacity => exact h.capacity
  case used => exact h.used
  case unfilled => simpa using h.unfilled
  case position => exact h.position
  case slots =>
    refine fun p hp => slotsFrom_map (fun y => ?_) (h.slots p hp)
    split
    exacts [hf y, ⟨rfl, rfl⟩]
  case headNotDone =>
    intro x xs hx
    obtain ⟨y, ys, hy, rfl, -⟩ := List.map_eq_cons_iff.1 hx
    split
    exacts [hd y (h.headNotDone y ys hy), h.headNotDone y ys hy]
  case markerWaits => exact h.markerWaits

/-- A record handed to its slot makes it WRITING (R102). -/
theorem RingInv.startRecord (h : RingInv s) (q : Seq) (w : RecordWrite) : RingInv (Machine.startRecord q w s) :=
  h.changeSlot (f := fun y => { y with progress := .writing, record := some w }) (fun _ => ⟨rfl, rfl⟩) (fun _ _ => nofun) q

/-- Filled passes the slots at the head of the table (R106). -/
theorem RingInv.passSlots {p : RingPlace} {f : Slot → Slot} {passed rest : List Slot} (h : RingInv s)
    (hp : s.rw.place = some p) (hf : ∀ y, (f y).seq = y.seq ∧ (f y).position = y.position)
    (hslots : s.rw.slots.map f = passed ++ rest) (hrest : ∀ y ys, rest = y :: ys → y.progress ≠ .done) :
    RingInv { s with rw := { s.rw with filled := s.rw.filled + BitVec.ofNat 32 passed.length, slots := rest } } := by
  have hlength : s.rw.slots.length = passed.length + rest.length := by
    simpa using congrArg List.length hslots
  have hunfilled := h.unfilled
  constructor
  case unplaced => exact fun hn => nomatch hp.symm.trans hn
  case unfilled =>
    dsimp only
    rw [toNat_advance_sub (by omega)]
    omega
  case slots =>
    refine fun r hr => slotsFrom_drop (xs := passed) ?_
    rw [← hslots]
    exact slotsFrom_map hf (h.slots r hr)
  case headNotDone => exact hrest
  exacts [h.capacity, h.used, h.position, h.markerWaits]

/-- The state with its release index advanced by n (R110). -/
def advanceRelease (n : Nat) (s : State) : State :=
  { s with rw := { s.rw with release := s.rw.release + BitVec.ofNat 32 n } }

/-- Filled slots are released; the marker that stays waits for a slot as before (R110). -/
theorem RingInv.release {n : Nat} {marker : Option Nat} (h : RingInv s) (hp : s.rw.place ≠ none)
    (hn : n ≤ (s.rw.filled - s.rw.release).toNat)
    (hm : marker.isSome = true → freeSlots (advanceRelease n s).rw = 0)
    (he : t.rw = { (advanceRelease n s).rw with pendingEnd := marker }) : RingInv t := by
  have hunfilled := h.unfilled
  have hreserve := toNat_sub_advance (n := n) (a := s.rw.reserve) (b := s.rw.release) (by omega)
  constructor <;> rw [he]
  case unplaced => exact fun hnone => absurd hnone hp
  case used =>
    intro p hr
    have := h.used p hr
    simp only [advanceRelease, hreserve]
    omega
  case unfilled =>
    simp only [advanceRelease, hreserve, toNat_sub_advance hn]
    omega
  exacts [h.capacity, h.position, h.slots, h.headNotDone, hm]

end Moves

end Sys2Proof.Safety


/-! # The ring's invariant beside the bridge's operations -/

namespace Sys2Proof.Safety

open Sys2Proof.Machine

section Operations

variable {s : State}

/-! ## Records and the END record -/

theorem handOverData_ringInv (c : CopyOp) (h : RingInv s) : RingInv (handOverData c s) := by
  unfold handOverData
  split
  exacts [h, (h.startRecord _ _).of_rw rfl]

theorem handOverVoid_ringInv (c : CopyOp) (h : RingInv s) : RingInv (handOverVoid c s) := by
  unfold handOverVoid
  split
  exacts [h, (h.startRecord _ _).of_rw rfl]

theorem writeEndIfReady_ringInv (h : RingInv s) : RingInv (writeEndIfReady s) := by
  rcases writeEndIfReady_cases s with he | ⟨q, i, x, -, -, -, -, -, -, he⟩ <;> rw [he]
  · exact h
  · obtain ⟨w, hw⟩ := composeEnd_rw (bank s i) x s
    exact (h.startRecord x.seq w).of_rw hw

theorem reserveEnd_ringInv (h : RingInv s) (hf : 1 ≤ freeSlots s.rw) : RingInv (reserveEnd s) :=
  writeEndIfReady_ringInv ((h.reserveSlot hf .endSlot).of_account rfl)

/-- The END record is reserved, or waits as the marker for the lack of a slot (R107). -/
theorem requestEnd_ringInv (e : Option Nat) (h : RingInv s) : RingInv (requestEnd e s) := by
  rw [requestEnd_eq]
  split
  · rename_i hf
    exact reserveEnd_ringInv (h.of_account rfl) hf
  · rename_i hf
    exact ⟨h.unplaced, h.capacity, h.used, h.unfilled, h.position, h.slots, h.headNotDone,
      fun _ => Nat.eq_zero_of_not_pos hf⟩

/-! ## Copies and the moves of a cut bank -/

theorem startCopy_rw (i : BankId) (n : Nat) (byHold : Bool) (s : State) :
    (startCopy i n byHold s).rw = s.rw ∨
      ∃ a, (startCopy i n byHold s).rw = { (reserveSlot .dataSlot s).rw with account := a } := by
  simp only [startCopy]
  split
  · exact .inl rfl
  · refine .inr ⟨accountData (bank s i).epoch s.rw.reserve s.rw.account, ?_⟩
    split <;> simp <;> rfl

theorem startCopy_ringInv (i : BankId) (n : Nat) (byHold : Bool) (h : RingInv s) (hf : 1 ≤ freeSlots s.rw) :
    RingInv (startCopy i n byHold s) := by
  rcases startCopy_rw i n byHold s with he | ⟨a, he⟩
  exacts [h.of_rw he, (h.reserveSlot hf .dataSlot).of_account he]

theorem startCopies_ringInv (h : RingInv s) : RingInv (startCopies s) :=
  startCopies_induction h fun _ i n byHold ht _ _ hf _ => startCopy_ringInv i n byHold ht hf

theorem closeIfResolved_ringInv (i : BankId) (h : RingInv s) : RingInv (closeIfResolved i s) := by
  rcases closeIfResolved_cases i s with he | ⟨-, -, he⟩ <;> rw [he]
  exacts [h, requestEnd_ringInv _ (h.of_rw (by simp))]

theorem drainIfSettled_ringInv (i : BankId) (h : RingInv s) : RingInv (drainIfSettled i s) := by
  rcases drainIfSettled_cases i s with he | ⟨-, -, he⟩ <;> rw [he]
  exacts [h, closeIfResolved_ringInv i (startCopies_ringInv (h.of_rw (by simp)))]

theorem drainAfter_ringInv (e : TrackerEntry) (h : RingInv s) : RingInv (drainAfter e s) := by
  rcases drainAfter_cases e s with he | ⟨t, -, he⟩ <;> rw [he]
  · exact h
  · rcases drainEpoch_cases t s with ⟨-, hd⟩ | ⟨i, -, hd⟩ <;> rw [hd]
    exacts [h, drainIfSettled_ringInv i h]

theorem completeWrite_ringInv (e : TrackerEntry) (h : RingInv s) : RingInv (completeWrite e s) :=
  drainAfter_ringInv e (h.of_rw (by simp))

theorem removeCopy_ringInv (q : Seq) (h : RingInv s) : RingInv (removeCopy q s) := h.of_rw rfl

theorem completeCopy_ringInv (c : CopyOp) (h : RingInv s) : RingInv (completeCopy c s) := by
  unfold completeCopy
  split
  · exact removeCopy_ringInv c.seq h
  · refine closeIfResolved_ringInv _ (startCopies_ringInv (removeCopy_ringInv c.seq ?_))
    split
    exacts [handOverData_ringInv c (h.of_rw (by simp)), handOverVoid_ringInv c (h.of_rw (by simp))]

theorem finishCopy_ringInv (q : Seq) (h : RingInv s) : RingInv (finishCopy s q) := by
  unfold finishCopy
  split
  · exact h
  · split
    exacts [completeCopy_ringInv _ h, h]

theorem finishCopies_ringInv (h : RingInv s) : RingInv (finishCopies s) :=
  finishCopies_induction h fun _ c ht _ _ => completeCopy_ringInv c ht

/-! ## Damage -/

theorem damageBank_ringInv (i : BankId) (r : DamageReason) (h : RingInv s) : RingInv (damageBank i r s) := by
  rcases damageBank_cases i r s with ⟨-, he⟩ | ⟨-, he⟩ | ⟨-, he⟩ <;> rw [he]
  · exact h
  · exact h.of_rw (by simp)
  · exact finishCopies_ringInv (requestEnd_ringInv _ (h.of_rw (by simp)))

theorem failWork_ringInv (r : DamageReason) (m g : Option Nat) (h : RingInv s) : RingInv (failWork r m g s) := by
  unfold failWork
  dsimp only
  split
  · exact h.of_rw (by simp)
  · rename_i i _
    exact (damageBank_ringInv i r h).of_rw (by simp)

theorem abandonCut_ringInv (h : RingInv s) : RingInv (abandonCut s) := by
  unfold abandonCut
  split
  exacts [h, damageBank_ringInv _ _ h]

theorem expireHold_ringInv (n : Nat) (h : RingInv s) : RingInv (expireHold n s) := by
  unfold expireHold
  split
  · exact h
  · split
    · exact h
    · rename_i i _
      exact (damageBank_ringInv i .holdTimeout h).of_rw (by simp)

/-! ## Cuts and the slots that are filled -/

theorem acceptCut_ringInv (i : BankId) (c : CutSource) (h : RingInv s) : RingInv (acceptCut i c s) :=
  drainIfSettled_ringInv i (h.of_rw (by cases c <;> simp))

theorem heldPowerCut_ringInv (h : RingInv s) : RingInv (heldPowerCut s) := by
  rcases heldPowerCut_cases s with ⟨-, he⟩ | ⟨-, he | ⟨i, -, -, he⟩⟩ <;> rw [he]
  exacts [h, h.of_rw rfl, acceptCut_ringInv i _ h]

theorem closeEpoch_ringInv (h : RingInv s) : RingInv (closeEpoch s) := by
  rcases closeEpoch_cases s with he | ⟨i, -, -, he⟩ <;> rw [he]
  exacts [h, heldPowerCut_ringInv (h.of_account rfl)]

theorem finishSlot_of_nil (q : Seq) (h : s.rw.slots = []) : finishSlot q s = writeEndIfReady s := by
  have hself : ({ s with rw := { s.rw with slots := [] } } : State) = s := by rw [← h]
  simp only [finishSlot, Machine.changeSlot, h, List.map_nil, advanceFilled, Bool.false_eq_true, if_false]
  rw [hself]

/-- The slots that filled passes: the run of DONE slots at the head of the table (R106). -/
theorem exists_passed (l : List Slot) :
    ∃ passed rest, l = passed ++ rest ∧ (∀ y ∈ passed, y.progress = .done) ∧
      ∀ y ys, rest = y :: ys → y.progress ≠ .done := by
  induction l with
  | nil => exact ⟨[], [], rfl, by simp, by simp⟩
  | cons x xs ih =>
    by_cases hx : x.progress = .done
    · obtain ⟨passed, rest, rfl, hdone, hrest⟩ := ih
      exact ⟨x :: passed, rest, rfl, by simpa using ⟨hx, hdone⟩, hrest⟩
    · exact ⟨[], x :: xs, rfl, by simp, fun y ys hy => (List.cons.inj hy).1 ▸ hx⟩

/-- Filled stops at the first slot that is not DONE, which heads the table from then on (R106). -/
theorem finishSlot_ringInv (q : Seq) (h : RingInv s) : RingInv (finishSlot q s) := by
  cases hp : s.rw.place with
  | none =>
    obtain ⟨-, -, -, -, hnil⟩ := h.unplaced hp
    rw [finishSlot_of_nil q hnil]
    exact writeEndIfReady_ringInv h
  | some p =>
    obtain ⟨passed, rest, hsplit, hdone, hrest⟩ :=
      exists_passed (s.rw.slots.map fun y => if y.seq = q then { y with progress := .done } else y)
    rw [finishSlot_eq h hp hsplit hdone hrest]
    have hpassed := writeEndIfReady_ringInv (h.passSlots hp (fun y => by split <;> exact ⟨rfl, rfl⟩) hsplit hrest)
    dsimp only
    split
    exacts [closeEpoch_ringInv hpassed, hpassed]

theorem resolveArea_ringInv (q : Seq) (failed : Bool) (h : RingInv s) : RingInv (resolveArea q failed s) := by
  cases hx : findSlot q s with
  | none => simpa only [resolveArea, hx] using h
  | some x =>
    cases hw : x.record with
    | none => simpa only [resolveArea, hx, hw] using h
    | some w =>
      have hcounted := h.changeSlot (f := fun y => { y with record := some (countResolved failed w) })
        (fun _ => ⟨rfl, rfl⟩) (fun _ => id) q
      rw [resolveArea_eq hx hw]
      dsimp only
      split
      · split
        exacts [hcounted.of_rw rfl, finishSlot_ringInv q hcounted]
      · exact hcounted

/-! ## Responses and expiries -/

theorem completePass_ringInv (n : Nat) (o : UpOutcome) (bs : List Byte) (x : Option Bool) (h : RingInv s) :
    RingInv (completePass n o bs x s) := by
  unfold completePass
  split
  · exact h
  · rename_i e _
    have hcomplete := completeWrite_ringInv e h
    dsimp only
    split <;> exact hcomplete.of_rw (by simp)

theorem requestOkay_ringInv (t : Tag) (r : Response) (h : RingInv s) : RingInv (requestOkay t r s) := by
  unfold requestOkay
  split
  case h_1 | h_2 => exact completePass_ringInv _ _ _ _ h
  case h_3 => exact finishCopy_ringInv _ (h.of_rw rfl)
  case h_4 | h_5 => exact resolveArea_ringInv _ _ h
  all_goals exact finishSlot_ringInv _ h

theorem requestFailed_ringInv (t : Tag) (k : FaultKind) (r : DamageReason) (h : RingInv s) :
    RingInv (requestFailed t k r s) := by
  unfold requestFailed
  split
  case h_1 | h_2 => exact completePass_ringInv _ _ _ _ (h.of_rw (by simp))
  case h_3 => exact finishCopies_ringInv (failWork_ringInv _ _ _ (h.of_rw rfl))
  case h_4 | h_5 => exact resolveArea_ringInv _ _ (failWork_ringInv _ _ _ h)
  all_goals exact finishSlot_ringInv _ (failWork_ringInv _ _ _ h)

theorem takeResponse_ringInv (d : DsResult) (r : Response) (h : RingInv s) : RingInv (takeResponse d r s) := by
  rcases takeResponse_cases d r s with ⟨-, he⟩ | ⟨t, -, -, he⟩ | ⟨t, _, _, -, -, ⟨-, he⟩ | ⟨-, he⟩⟩ <;> rw [he]
  · exact h.of_rw (by simp)
  · exact h.of_rw (by simp)
  · exact requestOkay_ringInv t r (h.of_rw rfl)
  · exact requestFailed_ringInv t _ _ (h.of_rw rfl)

theorem expireResponse_ringInv (n : Nat) (h : RingInv s) : RingInv (expireResponse n s) := by
  rcases expireResponse_cases n s with he | ⟨t, _, _, -, -, -, he⟩ <;> rw [he]
  exacts [h, requestFailed_ringInv t _ _ (h.of_rw (by simp))]

/-! ## The pins -/

theorem portReset_ringInv (h : RingInv s) : RingInv (portReset s) := by
  refine List.foldlRecOn _ _ (h.of_rw ?_) fun u hu e _ => drainAfter_ringInv e hu
  exact (foldl_frame (·.rw) (by simp) _ _).trans (by simp)

theorem assertPortReset_ringInv (h : RingInv s) : RingInv (assertPortReset s) := by
  have hpin : RingInv (setPortRstN false s) := h.of_rw rfl
  unfold assertPortReset
  split
  · dsimp only
    split
    exacts [(portReset_ringInv hpin).of_rw (by simp), hpin]
  · exact h

theorem powerWarning_ringInv (h : RingInv s) : RingInv (powerWarning s) := by
  rcases powerWarning_cases s with he | ⟨i, -, -, ⟨-, -, he⟩ | ⟨-, he⟩⟩ <;> rw [he]
  exacts [h, acceptCut_ringInv i _ h, h.of_rw rfl]

theorem assertPwrwarn_ringInv (h : RingInv s) : RingInv (assertPwrwarn s) := by
  have hpin : RingInv (setPwrwarn true s) := h.of_rw rfl
  unfold assertPwrwarn
  split
  · exact h
  · dsimp only
    split
    exacts [(powerWarning_ringInv hpin).of_rw (by simp), hpin]

end Operations

end Sys2Proof.Safety


/-! # RELEASE_SLOTS and the ring's invariant (R107, R110) -/

namespace Sys2Proof.Safety

open Sys2Proof.Machine

section Release

variable {s : State} {n : Nat}

theorem releaseSlots_badParam (h : 65535 < n) : releaseSlots n s = refuse .badParam s := if_pos h

theorem releaseSlots_noRing (hn : n ≤ 65535) (hp : s.rw.place = none) : releaseSlots n s = refuse .noRing s := by
  simp [releaseSlots, Nat.not_lt.2 hn, hp]

theorem releaseSlots_badCount (hn : n ≤ 65535) (hp : s.rw.place ≠ none) (h : (s.rw.filled - s.rw.release).toNat < n) :
    releaseSlots n s = refuse .badCount s := by
  rw [releaseSlots, if_neg (Nat.not_lt.2 hn), if_neg (by simpa using hp), if_pos h]

theorem releaseSlots_taken (hn : n ≤ 65535) (hp : s.rw.place ≠ none) (h : n ≤ (s.rw.filled - s.rw.release).toNat) :
    releaseSlots n s =
      taken (indexData (startCopies (reservePendingEnd (advanceRelease n s))).rw)
        (startCopies (reservePendingEnd (advanceRelease n s))) := by
  rw [releaseSlots, if_neg (Nat.not_lt.2 hn), if_neg (by simpa using hp), if_neg (Nat.not_lt.2 h)]
  rfl

theorem reservePendingEnd_taken {e : Nat} (he : s.rw.pendingEnd = some e) (hf : 1 ≤ freeSlots s.rw) :
    reservePendingEnd s = reserveEnd { s with rw := { s.rw with pendingEnd := none } } := by
  simp [reservePendingEnd, he, hf]

theorem reservePendingEnd_waits (h : s.rw.pendingEnd.isSome = true → freeSlots s.rw = 0) : reservePendingEnd s = s := by
  refine if_neg fun hc => ?_
  obtain ⟨hm, hf⟩ := Bool.and_eq_true_iff.1 hc
  have := h hm
  have := of_decide_eq_true hf
  omega

/-- The marker gives way to the END record as soon as a slot is free (R107, R110). -/
theorem reservePendingEnd_ringInv (h : RingInv s) (hp : s.rw.place ≠ none) (hn : n ≤ (s.rw.filled - s.rw.release).toNat) :
    RingInv (reservePendingEnd (advanceRelease n s)) := by
  by_cases hwait : (advanceRelease n s).rw.pendingEnd.isSome = true → freeSlots (advanceRelease n s).rw = 0
  · rw [reservePendingEnd_waits hwait]
    exact h.release hp hn hwait rfl
  · obtain ⟨hm, hf⟩ := Classical.not_imp.1 hwait
    obtain ⟨e, he⟩ := Option.isSome_iff_exists.1 hm
    rw [reservePendingEnd_taken he (Nat.one_le_iff_ne_zero.2 hf)]
    exact reserveEnd_ringInv (h.release (marker := none) hp hn nofun rfl) (Nat.one_le_iff_ne_zero.2 hf)

theorem releaseSlots_ringInv (n : Nat) (h : RingInv s) : RingInv (releaseSlots n s).2 := by
  by_cases hn : n ≤ 65535
  · by_cases hp : s.rw.place = none
    · rw [releaseSlots_noRing hn hp]
      exact h
    · by_cases hc : n ≤ (s.rw.filled - s.rw.release).toNat
      · rw [releaseSlots_taken hn hp hc]
        exact startCopies_ringInv (reservePendingEnd_ringInv h hp hc)
      · rw [releaseSlots_badCount hn hp (Nat.lt_of_not_le hc)]
        exact h
  · rw [releaseSlots_badParam (Nat.lt_of_not_le hn)]
    exact h

end Release

/-! ## Every command keeps the invariant -/

theorem effect_ringInv (c : Instr) {s : State} (h : RingInv s) : RingInv (effect c s) := by
  cases c
  case configureRing b n =>
    rcases configureRing_cases b n s with he | he | ⟨p, -, h2, h3, -, -, he⟩ <;> rw [effect, he]
    exacts [h, ringInv_placeRing (by simp) s, ringInv_placeRing (fun r hr => Option.some.inj hr ▸ ⟨h2, h3⟩) s]
  case unconfigureRing b =>
    rcases unconfigureRing_cases s with he | he <;> rw [effect, he]
    exacts [h, ringInv_placeRing (by simp) s]
  case releaseSlots n => exact releaseSlots_ringInv n h
  case setRingLow n =>
    rw [effect, setRingLow]
    split
    exacts [h, h.of_account rfl]
  case cut =>
    rcases cutCommand_cases s with he | ⟨i, -, -, -, he⟩ <;> rw [effect, he]
    exacts [h, acceptCut_ringInv i _ h]
  case journalStop =>
    rcases stopCommand_cases s with he | ⟨i, -, -, he⟩ <;> rw [effect, he]
    exacts [h, acceptCut_ringInv i _ h]
  case abandon => exact (abandonCut_ringInv h).of_rw (by simp [effect])
  case rstNAssert =>
    rw [effect, assertReset]
    split
    exacts [ringInv_powerOn .., h]
  case portRstNAssert => exact assertPortReset_ringInv h
  case pwrwarnAssert => exact assertPwrwarn_ringInv h
  case responseOkay r => exact takeResponse_ringInv .okay r h
  case responseError r => exact takeResponse_ringInv .error r h
  case lateResponse d r => exact takeResponse_ringInv d r h
  case responseTimerExpiry n => exact expireResponse_ringInv n h
  case holdTimerExpiry n => exact expireHold_ringInv n h
  case acceptance p => cases p <;> exact h.of_rw (by simp [effect])
  case setMode m => rcases setMode_cases m s with he | he | ⟨-, -, -, he⟩ <;> exact h.of_rw (by simp [effect, he])
  case setMemoryLimit l => rcases setMemoryLimit_cases l s with he | ⟨-, -, -, -, he⟩ <;> exact h.of_rw (by simp [effect, he])
  case mapInitiator i d => rcases mapInitiator_cases i d s with he | ⟨_, -, he⟩ <;> exact h.of_rw (by simp [effect, he])
  case installWindow n d a g e b k j =>
    rcases installWindow_cases n d a g e b k j s with he | ⟨_, -, -, he⟩ <;> exact h.of_rw (by simp [effect, he])
  case removeWindow n => rcases removeWindow_cases n s with he | he <;> exact h.of_rw (by simp [effect, he])
  case extendWindow n e =>
    rcases extendWindow_cases n e s with he | ⟨_, -, -, -, -, he⟩ <;> exact h.of_rw (by simp [effect, he])
  case setKey n k => rcases setKey_cases n k s with he | ⟨_, _, -, -, he⟩ <;> exact h.of_rw (by simp [effect, he])
  case journalStart n =>
    rcases journalStart_cases n s with he | ⟨i, -, -, -, -, -, he⟩ <;> exact h.of_rw (by simp [effect, he])
  all_goals exact h.of_rw (by simp [effect])

theorem exec_ringInv {c : Instr} {s t : State} (h : RingInv s) (ht : exec c s = .next t) : RingInv t :=
  exec_preserves (fun _ _ ha => ha.of_rw (by simp)) (fun _ _ ha => ha.of_rw (by simp)) h (effect_ringInv c h) ht

/-- Settles O58: each move of the Ring Writer keeps the invariant (`RingInv.reserveSlot`, `RingInv.changeSlot`,
`RingInv.passSlots`, `RingInv.release`), and every operation that reserves a slot has found one free. -/
theorem ringInvariantKept : Obligations.RingInvariantKept := by
  intro s t hs ht
  rcases step_cases ht with ⟨-, rfl⟩ | ⟨c, rest, -, hc⟩
  · exact hs
  · exact exec_ringInv (hs.of_rw (t := setPending rest s) rfl) hc

end Sys2Proof.Safety

/-! # READ_STATUS and READ_RING (R113, R184) -/

namespace Sys2Proof.Safety

open Sys2Proof.Machine

theorem bits_four (b0 b1 b2 b3 : Bool) :
    bits [b0, b1, b2, b3] = b0.toNat + 2 * b1.toNat + 4 * b2.toNat + 8 * b3.toNat := by
  simp only [bits]
  omega

theorem bits_six (b0 b1 b2 b3 b4 b5 : Bool) :
    bits [b0, b1, b2, b3, b4, b5] =
      b0.toNat + 2 * b1.toNat + 4 * b2.toNat + 8 * b3.toNat + 16 * b4.toNat + 32 * b5.toNat := by
  simp only [bits]
  omega

/-- An absent sequence reads as 0 (Table 12.1.6). -/
theorem seqBytes_eq (q : Option Seq) : seqBytes q = beBytes 4 (q.getD 0).toNat := by
  cases q <;> rfl

/-- A tag in use is OUTSTANDING or EXPIRED (Table 8.4.1). -/
theorem expiredTags_eq (dp : DownstreamPort) : expiredTags dp = dp.tags.length - outstandingTags dp := by
  have hexpired : expiredTags dp = dp.tags.countP fun t => !isOutstanding t := by
    rw [expiredTags, List.countP_eq_length_filter]
    refine congrArg List.length (List.filter_congr fun t _ => ?_)
    unfold isOutstanding
    cases t.state <;> rfl
  have hcount := List.length_eq_countP_add_countP isOutstanding (l := dp.tags)
  simp only [Bool.not_eq_true, Bool.decide_eq_false] at hcount
  rw [hexpired, outstandingTags_eq]
  omega

/-- Settles O19: the data are those of the tables field by field (`statusData`, `ringData`), and the commands read alone. -/
theorem readStatusAndRing : Obligations.ReadStatusAndRing := by
  intro s banks status ring hr hbanks hstatus hring
  have hstatusData : statusData s = status := by
    rw [hstatus, hbanks, statusData, bits_four, expiredTags_eq]
    simp only [bankBytes, optBytes, entriesIn, List.append_assoc]
  have hringData : ringData s = ring := by
    rw [hring]
    simp only [ringData, bits_six, seqBytes_eq, optBytes, slotsIn]
  refine ⟨?_, ?_, ?_, ?_⟩
  · simp [hstatus, hbanks]
  · exact hstatusData ▸ answers_of_body (body := fun s => taken (statusData s) s) rfl hr rfl rfl
  · simp [hring]
  · exact hringData ▸ answers_of_body (body := fun s => taken (ringData s) s) rfl hr rfl rfl

end Sys2Proof.Safety


/-! # CONFIGURE_RING (R97, R98, R99) -/

namespace Sys2Proof.Safety

open Sys2Proof.Machine

section Configure

variable {s : State} {base n : Nat}

theorem ringBusy_iff (s : State) :
    ringBusy s = true ↔
      s.ec.journal = .recording ∨ s.ju.bankA.state ≠ .free ∨ s.ju.bankB.state ≠ .free ∨ s.rw.pendingEnd ≠ none := by
  simp [ringBusy, or_assoc, Option.isSome_iff_ne_none]

/-- A command that is taken, with RING_LOW judged over its event (R112, R179). -/
theorem answers_judged {c : Instr} {body : State → Answer × State} {t : State} {data : List Byte}
    (hc : exec c s = execute c body s) (hr : s.pins.rstN = true) (hb : body s = taken data t) :
    Answers c .ok data s (raiseRingLow s t) := by
  rw [Answers, hc, execute_high hr, hb]
  rfl

/-- Without a ring the count is never below the threshold (R112). -/
theorem raiseRingLow_of_unplaced {t : State} (h : t.rw.place = none) : raiseRingLow s t = t := by
  simp [raiseRingLow, belowThreshold, h]

theorem beBytes_zero (n : Nat) : beBytes n 0 = List.replicate n 0#8 := by
  induction n with
  | zero => rfl
  | succ n ih => simp [beBytes, ih, List.replicate_succ]

theorem ringPlaceData_placeRing (place : Option RingPlace) (s : State) :
    ringPlaceData (placeRing place s).rw =
      optBytes 5 (place.map RingPlace.base) ++ optBytes 2 (place.map RingPlace.capacity) ++ List.replicate 12 0#8 := by
  simp [ringPlaceData, placeRing, resetRingWriter, beBytes_zero]

/-- The data of a ring that is not configured: 19 zero bytes (notes/assumptions/12.md). -/
theorem ringPlaceData_unplaced (s : State) : ringPlaceData (placeRing none s).rw = List.replicate 19 0#8 := by
  simp [ringPlaceData_placeRing, optBytes, beBytes_zero]

theorem configureRing_badParam (hn : 1 ≤ n) (h : base % 64 ≠ 0 ∨ 2 ^ 40 ≤ base ∨ n = 1 ∨ 65535 < n) :
    configureRing base n s = refuse .badParam s := by
  rw [configureRing, if_neg (by omega)]
  exact if_pos h

/-- The checks of R98 behind the parameters' own. -/
theorem configureRing_inRange (h64 : base % 64 = 0) (h40 : base < 2 ^ 40) (h2 : 2 ≤ n) (hn : n ≤ 65535) :
    configureRing base n s =
      if ringBusy s then refuse .notIdle s
      else if s.wu.memoryLimit * 4096 < base + n * 4160 then refuse .range s
      else if placeConflicts s.wu { base := base, capacity := n } then refuse .ringConflict s
      else taken (ringPlaceData (placeRing (some { base := base, capacity := n }) s).rw)
        (placeRing (some { base := base, capacity := n }) s) := by
  have hgood : ¬ (base % 64 ≠ 0 ∨ Config.addressSpace ≤ base ∨ n = 1 ∨ 65535 < n) := by
    rw [Config.addressSpace]
    omega
  rw [configureRing, if_neg (by omega)]
  exact if_neg hgood

theorem ringConflict_some {w : Window} :
    RingConflict (some { base := base, capacity := n }) w ↔
      w.key = .readWrite ∧ Meet w.memLow w.memEnd base (base + n * 4160) := by
  simp [RingConflict]

end Configure

/-- Settles O53: BAD_PARAM, then the checks of `configureRing_inRange` in their order; both rows with a slot count of 0 are
`unconfigureRing`. -/
theorem configureRingRule : Obligations.ConfigureRingRule := by
  intro s base n busy placed hr hbusy hplaced
  rw [← ringBusy_iff] at hbusy
  replace hplaced : ∀ p, placed p = placeRing p s := hplaced
  simp only [hplaced]
  refine ⟨fun hb => ?_, fun hb => ?_, fun hn h => ?_, fun h64 h40 h2 hn => ⟨fun hb => ?_, fun hb => ⟨fun hlimit => ?_,
    fun hlimit => ⟨?_, fun hfree => ?_⟩⟩⟩⟩
  · have hbody : unconfigureRing s = refuse .notIdle s := if_pos (hbusy.1 hb)
    exact ⟨refuses_of_body (body := configureRing base 0) rfl hr hbody, refuses_of_body (body := unconfigureRing) rfl hr hbody⟩
  · have hbody : unconfigureRing s = taken (List.replicate 19 0#8) (placeRing none s) :=
      (if_neg (mt hbusy.2 hb)).trans (by rw [ringPlaceData_unplaced])
    have hlow : raiseRingLow s (placeRing none s) = placeRing none s := raiseRingLow_of_unplaced rfl
    exact ⟨hlow ▸ answers_judged (body := configureRing base 0) rfl hr hbody,
      hlow ▸ answers_judged (body := unconfigureRing) rfl hr hbody⟩
  · exact refuses_of_body (body := configureRing base n) rfl hr (configureRing_badParam hn h)
  · refine refuses_of_body (body := configureRing base n) rfl hr ?_
    rw [configureRing_inRange h64 h40 h2 hn, if_pos (hbusy.1 hb)]
  · refine refuses_of_body (body := configureRing base n) rfl hr ?_
    rw [configureRing_inRange h64 h40 h2 hn, if_neg (mt hbusy.2 hb), if_pos hlimit]
  · rintro ⟨m, w, hw, hkey, hmeet⟩
    refine refuses_of_body (body := configureRing base n) rfl hr ?_
    rw [configureRing_inRange h64 h40 h2 hn, if_neg (mt hbusy.2 hb), if_neg (Nat.not_lt.2 hlimit),
      if_pos (placeConflicts_iff.2 ⟨m, w, hw, ringConflict_some.2 ⟨hkey, hmeet⟩⟩)]
  · have hclear : ¬ placeConflicts s.wu { base := base, capacity := n } = true := by
      rw [placeConflicts_iff]
      rintro ⟨m, w, hw, hc⟩
      obtain ⟨hkey, hmeet⟩ := ringConflict_some.1 hc
      exact hfree m w hw hkey hmeet
    refine answers_judged (body := configureRing base n) rfl hr ?_
    rw [configureRing_inRange h64 h40 h2 hn, if_neg (mt hbusy.2 hb), if_neg (Nat.not_lt.2 hlimit), if_neg hclear]
    exact congrArg (taken · _) (ringPlaceData_placeRing _ s)

end Sys2Proof.Safety


/-! # RELEASE_SLOTS, SET_RING_LOW and RING_LOW (R110, R112) -/

namespace Sys2Proof.Safety

open Sys2Proof.Machine

theorem belowThreshold_iff (rw : RingWriter) :
    belowThreshold rw = true ↔
      ∃ p, rw.place = some p ∧ p.capacity - (rw.reserve - rw.release).toNat < rw.lowThreshold := by
  rw [belowThreshold, freeSlots]
  cases rw.place <;> simp

/-- What RELEASE_SLOTS comes to behind its checks, by the marker (R107, R110). -/
theorem startCopies_reservePendingEnd {s t u : State} (hju : u.ju = s.ju) (hmarker : u.rw.pendingEnd = s.rw.pendingEnd)
    (hreserve : ∀ e, s.rw.pendingEnd = some e → 1 ≤ freeSlots u.rw →
      t = reserveEnd { u with rw := { u.rw with pendingEnd := none } })
    (hwait : ∀ e, s.rw.pendingEnd = some e → freeSlots u.rw = 0 → t = u)
    (hcopies : s.rw.pendingEnd = none → t = startCopies u)
    (hbanks : s.rw.pendingEnd ≠ none → ∀ i, (bank s i).state ≠ .draining) :
    startCopies (reservePendingEnd u) = t := by
  cases hm : s.rw.pendingEnd with
  | none => rw [hcopies hm, reservePendingEnd_waits (by simp [hmarker, hm])]
  | some e =>
    have hquiet {v : State} (hv : v.ju = s.ju) : startCopies v = v :=
      startCopies_of_noDraining fun i => (bank_congr hv i).symm ▸ hbanks (by simp [hm]) i
    by_cases hf : 1 ≤ freeSlots u.rw
    · rw [hreserve e hm hf, reservePendingEnd_taken (hmarker.trans hm) hf]
      exact hquiet (by simp [hju])
    · have hzero : freeSlots u.rw = 0 := Nat.eq_zero_of_not_pos hf
      rw [hwait e hm hzero, reservePendingEnd_waits fun _ => hzero]
      exact hquiet hju

/-- Settles O54: the checks of RELEASE_SLOTS one by one, its effects by the marker (`startCopies_reservePendingEnd`), and
RING_LOW by the threshold before and after (`belowThreshold_iff`). -/
theorem releaseAndRingLow : Obligations.ReleaseAndRingLow := by
  intro s n hr
  refine ⟨fun hn => ⟨?_, ?_⟩, fun hn hp => ?_, fun hn hp hc => ?_, ?_, fun hn => ?_, ?_⟩
  · exact refuses_of_body (body := releaseSlots n) rfl hr (releaseSlots_badParam hn)
  · exact refuses_of_body (body := setRingLow n) rfl hr (if_pos hn)
  · exact refuses_of_body (body := releaseSlots n) rfl hr (releaseSlots_noRing hn hp)
  · exact refuses_of_body (body := releaseSlots n) rfl hr (releaseSlots_badCount hn hp hc)
  · rintro u t hn hp hc rfl hreserve hwait hcopies hbanks
    have ht := startCopies_reservePendingEnd (u := advanceRelease n s) rfl rfl hreserve hwait hcopies hbanks
    refine answers_judged (body := releaseSlots n) rfl hr ?_
    rw [releaseSlots_taken hn hp hc, ht]
    rfl
  · exact answers_judged (body := setRingLow n) rfl hr (if_neg (Nat.not_lt.2 hn))
  · intro t below hbelow
    simp only [hbelow, ← belowThreshold_iff]
    refine ⟨fun hs ht => ?_, fun h => ?_⟩
    · simp [raiseRingLow, hs, ht, raiseCause, Cause.bit]
    · rcases raiseRingLow_cases s t with he | ⟨hs, ht, -⟩
      · exact he
      · simp [hs, ht] at h

end Sys2Proof.Safety


/-! # READ_EPOCH (R118) -/

namespace Sys2Proof.Safety

open Sys2Proof.Machine

section ReadEpoch

variable {s : State} {k i : Nat}

/-- The record of an age, field by field (Table 12.1.6). -/
theorem logData_eq (held : Nat) (r : LogRecord) (i : Nat) :
    logData held r i =
      beBytes 1 held ++ beBytes 4 r.epoch ++ beBytes 1 r.status.code ++ beBytes 1 (damageCode r.damage) ++
        beBytes 1 (r.firstData.isSome.toNat + 2 * r.endSeq.isSome.toNat) ++
        beBytes 1 (r.power.toNat + 2 * r.portReset.toNat) ++ beBytes 2 r.listed ++ beBytes 2 r.copied ++
        beBytes 2 r.skipped ++ beBytes 2 r.urgent ++ beBytes 4 (r.firstData.getD 0).toNat ++
        beBytes 4 (r.endSeq.getD 0).toNat ++ beBytes 1 r.spill.length ++ beBytes 1 (min 8 (r.spill.length - i)) ++
        (page i 8 r.spill).flatMap spillBytes := by
  simp only [logData, bits_pair, seqBytes_eq, length_page]

theorem readEpoch_empty (hk : k ≤ 15) (hi : i ≤ 63) (hlog : s.ec.log.length ≤ k) :
    readEpoch k i s = ({ status := .empty, data := [BitVec.ofNat 8 s.ec.log.length] }, s) := by
  rw [readEpoch, if_neg (by omega), List.getElem?_eq_none hlog, beBytes_one]

theorem readEpoch_taken {r : LogRecord} (hk : k ≤ 15) (hi : i ≤ 63) (hr : s.ec.log[k]? = some r) :
    readEpoch k i s = taken (logData s.ec.log.length r i) s := by
  rw [readEpoch, if_neg (by omega), hr]

/-- A command that leaves the state alone is answered as its owning block says. -/
theorem answers_of_unchanged {c : Instr} {body : State → Answer × State} {st : Status} {data : List Byte}
    (hc : exec c s = execute c body s) (hr : s.pins.rstN = true) (hb : body s = ({ status := st, data := data }, s)) :
    Answers c st data s s := by
  rw [Answers, hc, execute_high hr, hb, raiseRingLow_self]

end ReadEpoch

/-- Settles O21: BAD_PARAM, EMPTY with the count (`readEpoch_empty`), and the record of the age (`readEpoch_taken`) with its
bytes (`logData_eq`). -/
theorem readEpochRule : Obligations.ReadEpochRule := by
  intro s k i hr
  refine ⟨fun hbad => ?_, fun hk hi hlog => ?_, fun r hk hi hrecord => ?_⟩
  · exact refuses_of_body (body := readEpoch k i) rfl hr (if_pos hbad)
  · exact answers_of_unchanged (body := readEpoch k i) rfl hr (readEpoch_empty hk hi hlog)
  · have hbody := (readEpoch_taken hk hi hrecord).trans (congrArg (taken · s) (logData_eq _ r i))
    exact answers_of_body (body := readEpoch k i) rfl hr hbody rfl

end Sys2Proof.Safety


/-! # Alerts (R119, R121 to R124) -/

namespace Sys2Proof.Safety

open Sys2Proof.Machine

/-- A set of causes is empty when none of its bits is set. -/
theorem causes_ne_zero_iff (x : Byte) : x ≠ 0 ↔ ∃ n, x.getLsbD n = true := by
  refine ⟨fun hx => ?_, fun ⟨n, hn⟩ hx => by simp [hx] at hn⟩
  by_contra! hnone
  exact hx (BitVec.eq_of_getLsbD_eq fun n _ => by simpa using hnone n)

/-- While RST_N is high, ALERT_N is driven by one cause that is both pending and enabled (R121). -/
theorem alertDriven_iff {s : State} (hr : s.pins.rstN = true) :
    alertDriven s = true ↔ ∃ n, s.au.pending.getLsbD n = true ∧ s.au.enable.getLsbD n = true := by
  simp only [alertDriven, hr, Bool.true_and, decide_eq_true_eq, causes_ne_zero_iff, BitVec.getLsbD_and, Bool.and_eq_true]

/-- An acknowledged set leaves what is pending and not of the set, so a cause of the set that is not pending is ignored (R122). -/
theorem getLsbD_and_not (x y : Byte) (n : Nat) :
    (x &&& ~~~y).getLsbD n = true ↔ x.getLsbD n = true ∧ y.getLsbD n = false := by
  rw [BitVec.getLsbD_and, BitVec.getLsbD_not, Bool.and_eq_true, Bool.and_eq_true, decide_eq_true_eq, Bool.not_eq_true']
  exact ⟨fun ⟨hx, _, hy⟩ => ⟨hx, hy⟩, fun ⟨hx, hy⟩ => ⟨hx, BitVec.lt_of_getLsbD hx, hy⟩⟩

theorem readAlerts_eq (s : State) :
    readAlerts s = taken [s.au.pending, s.au.enable, if alertDriven s then 1#8 else 0#8] s := by
  rw [readAlerts]
  cases alertDriven s <;> rfl

/-- Settles O52: each command's effect on AU alone, and the sets bit by bit (`getLsbD_and_not`, `alertDriven_iff`). -/
theorem alertsRule : Obligations.AlertsRule := by
  intro s causes hr
  refine ⟨?_, ?_, ⟨s.au.pending &&& ~~~causes, ?_, fun n => getLsbD_and_not s.au.pending causes n⟩, alertDriven_iff hr,
    fun c => ⟨s.au.pending ||| c.bit, rfl, fun n => ?_⟩⟩
  · exact answers_of_body (body := setAlertEnable causes) rfl hr rfl rfl
  · exact answers_of_body (body := readAlerts) rfl hr (readAlerts_eq s) rfl
  · exact answers_of_body (body := ackAlerts causes) rfl hr rfl rfl
  · rw [BitVec.getLsbD_or, Bool.or_eq_true]

end Sys2Proof.Safety


/-! # Staging and acceptance at the upstream port (R129, R130, R131, R133) -/

namespace Sys2Proof.Safety

open Sys2Proof.Machine

/-! ## What the port takes -/

/-- Of 48 distinct tracker numbers one is FREE exactly while fewer than 48 are outstanding (R133). -/
theorem freeEntry_isSome_iff {s : State} (hinv : CapacityInv s) :
    (∃ n, freeEntry s = some n) ↔ s.up.tracker.length < 48 := by
  constructor
  · rintro ⟨n, hn⟩
    obtain ⟨hrange, hfree⟩ := freeEntry_some hn
    have hnodup : (n :: s.up.tracker.map TrackerEntry.number).Nodup :=
      List.nodup_cons.2 ⟨by simpa using hfree, hinv.trackerNumbers⟩
    have hbound : ∀ m ∈ n :: s.up.tracker.map TrackerEntry.number, m < 48 := by
      simpa [hrange] using hinv.trackerRange
    simpa using length_le_of_nodup_lt hnodup hbound
  · intro hlen
    by_contra hnone
    have hall : ∀ m < 48, m ∈ s.up.tracker.map TrackerEntry.number := by
      have hfind : freeEntry s = none := Option.eq_none_iff_forall_ne_some.2 fun n hn => hnone ⟨n, hn⟩
      simpa [freeEntry, Config.trackerEntries] using hfind
    have hsub : (List.range 48).Subperm (s.up.tracker.map TrackerEntry.number) :=
      List.Nodup.subperm List.nodup_range fun m hm => hall m (List.mem_range.1 hm)
    have hle := hsub.length_le
    simp only [List.length_range, List.length_map] at hle
    omega

/-- The two conditions of R129, each of which makes a transaction wait. -/
theorem mayAccept_eq_none {s : State} (h : s.up.portState ≠ .accepting ∨ (CapacityInv s ∧ s.up.tracker.length = 48)) :
    mayAccept s = none := by
  rcases h with hport | ⟨hinv, hfull⟩
  · exact if_neg hport
  · have hnone : freeEntry s = none := Option.eq_none_iff_forall_ne_some.2 fun n hn =>
      absurd ((freeEntry_isSome_iff hinv).1 ⟨n, hn⟩) (by omega)
    simp [mayAccept, hnone]

theorem acceptRead_waits {s : State} (h : mayAccept s = none) (t : Txn) : acceptRead t s = s := by
  simp only [acceptRead, h]

theorem acceptStaged_waits {s : State} (h : mayAccept s = none ∨ s.up.staging = none ∨ 8 ≤ s.ce.holdQueue.length) :
    acceptStaged s = s := by
  unfold acceptStaged
  split
  · rename_i w n hstaged hmay
    refine if_neg (Nat.not_lt.2 ?_)
    simpa [hstaged, hmay, Config.holdQueueEntries] using h
  · rfl

theorem event_idle {f : State → State} {s : State} (h : f s = s) : event f s = .next s := by
  simp [event, h]

/-- Settles O28: a free number by the count of the distinct ones, and each acceptance that is not taken by its own lemma. -/
theorem takenOrLeftWaiting : Obligations.TakenOrLeftWaiting := by
  intro s w t hr
  refine ⟨fun hport hstaging => ?_, fun h => event_idle (if_neg ?_), freeEntry_isSome_iff, fun n => freeEntry_some,
    fun h => ⟨event_idle (acceptRead_waits (mayAccept_eq_none h) t),
      event_idle (acceptStaged_waits (.inl (mayAccept_eq_none h)))⟩,
    fun h => event_idle (acceptStaged_waits (.inr h))⟩
  · have hstage : stageWrite w s = { s with up := { s.up with staging := some w } } := if_pos ⟨hport, hstaging⟩
    exact (event_of_rw hr (by simp)).trans (by rw [hstage])
  · rintro ⟨hport, hstaging⟩
    exact h.elim (· hport) (· hstaging)

/-! ## A report beside the changes of an acceptance -/

/-- A report writes TM and AU alone. -/
theorem report_eq (r : Report) (n : Nat) (s : State) :
    report r n s = { s with tm := (report r n s).tm, au := (report r n s).au } := by
  unfold report reportBy
  dsimp only
  split <;> rfl

/-- A report commutes with a change that neither reads nor writes TM and AU. -/
theorem report_comm {f : State → State}
    (hf : ∀ s tm au, f { s with tm := tm, au := au } = { f s with tm := tm, au := au }) (r : Report) (n : Nat) (s : State) :
    report r n (f s) = f (report r n s) := by
  have hself : f s = { f s with tm := s.tm, au := s.au } := hf s s.tm s.au
  have htm : (f s).tm = s.tm := by rw [hself]
  have hau : (f s).au = s.au := by rw [hself]
  obtain ⟨htm', hau'⟩ := reportBy_congr (r := r) (amount := fun _ => n) htm hau
  calc report r n (f s)
      = { f s with tm := (report r n (f s)).tm, au := (report r n (f s)).au } := report_eq r n (f s)
    _ = { f s with tm := (report r n s).tm, au := (report r n s).au } := by
        rw [show (report r n (f s)).tm = (report r n s).tm from htm', show (report r n (f s)).au = (report r n s).au from hau']
    _ = f { s with tm := (report r n s).tm, au := (report r n s).au } := (hf s _ _).symm
    _ = f (report r n s) := by rw [← report_eq]

/-! ## A transaction that passes lookup -/

section Passed

variable {n : Nat} {t : Txn} {data : List Byte} {strobes : List Bool} {s : State} {r : LookupResult}

/-- A transaction taken, with its entry in the tracker and its report made, before its lookup result decides (R131). -/
def entered (n : Nat) (dir : Direction) (t : Txn) (data : List Byte) (strobes : List Bool) (r : LookupResult) (s : State) :
    State :=
  report (acceptedReport dir r) 1 (withTracker (s.up.tracker ++ [newEntry n dir t data strobes s.wu.mode r]) s)

@[simp] theorem entered_wu (dir : Direction) : (entered n dir t data strobes r s).wu = s.wu := by
  simp [entered, withTracker]

theorem acceptInto_passedRead (hlook : lookup s.wu .read t = r) (hk : r.refusal = none) :
    acceptInto n .read t data strobes s = issueEntry n (entered n .read t data strobes r s) := by
  simp only [acceptInto, hlook, hk]
  rfl

theorem acceptInto_passedWrite (hlook : lookup s.wu .write t = r) (hk : r.refusal = none) :
    acceptInto n .write t data strobes s = passWrite n t r (entered n .write t data strobes r s) := by
  simp only [acceptInto, hlook, hk]
  rfl

/-- The entry that an acceptance has just appended is handed over with its own request (R131, R144). -/
theorem issueEntry_newest {l : List TrackerEntry} {e : TrackerEntry} (hl : ∀ x ∈ l, x.number ≠ n) (he : e.number = n) :
    issueEntry n (withTracker (l ++ [e]) s) = pushPass (passRequest e) (withTracker (l ++ [issued e]) s) := by
  have hnone : l.find? (fun x => decide (x.number = n)) = none := List.find?_eq_none.2 fun x hx => by simpa using hl x hx
  have hfind : findEntry n (withTracker (l ++ [e]) s) = some e := by
    simp [findEntry, withTracker, List.find?_append, hnone, he]
  simp only [issueEntry, hfind, changeEntry_withTracker, map_append_newest _ hl he]
  rfl

/-- Handed over at once, the accepted transaction is in the tracker ISSUED and its request is the newest of the pass-through
queue; the report does not matter to either. -/
theorem issueEntry_entered {dir : Direction} (hn : ∀ x ∈ s.up.tracker, x.number ≠ n) :
    issueEntry n (entered n dir t data strobes r s) =
      report (acceptedReport dir r) 1
        (pushPass (passRequest (newEntry n dir t data strobes s.wu.mode r))
          (withTracker (s.up.tracker ++ [issued (newEntry n dir t data strobes s.wu.mode r)]) s)) := by
  rw [entered, report_withTracker, issueEntry_newest hn rfl, report_comm fun _ _ _ => rfl, report_withTracker]

/-- One more transparent write outstanding (R50). -/
def countTransparent (s : State) : State :=
  { s with ec := { s.ec with transparentWrites := s.ec.transparentWrites + 1 } }

/-- A transparent write is counted and handed over (R50, R131). -/
theorem passWrite_transparent (hm : s.wu.mode = .transparent) : passWrite n t r s = issueEntry n (countTransparent s) := by
  simp only [passWrite, hm]
  rfl

/-- The Transparent Write Count is beside the tracker and the report. -/
theorem countTransparent_entered (dir : Direction) :
    countTransparent (entered n dir t data strobes r s) = entered n dir t data strobes r (countTransparent s) :=
  (report_comm (f := countTransparent) (fun _ _ _ => rfl) _ _ _).symm

/-- A guarded write is tagged, marked and hold-checked, in this order (R131). -/
theorem passWrite_guarded {m : Nat} (hm : s.wu.mode = .guarded) (hmem : r.memory = some m) :
    passWrite n t r s =
      holdCheck n (m / 4096) { initiator := t.initiator, otag := t.otag } r (markWrite r (m / 4096) (tagWrite n s)) := by
  simp only [passWrite, hm, hmem]
  rfl

end Passed

/-- Settles O29: the entry that the acceptance appends is handed over at once. -/
theorem readAccepted : Obligations.ReadAccepted := by
  rintro s t n m r e q hacc rfl hk hmem rfl rfl
  obtain ⟨hexec, -, -, -, hnew⟩ := exec_acceptance hacc
  rw [hexec, acceptInto_passedRead rfl hk, issueEntry_entered hnew]
  simp only [passRequest, newEntry, issued, hmem]
  rfl

/-- Settles O30: in TRANSPARENT mode the count commutes with the report and the entry is handed over, in GUARDED mode the three
parts follow the report. -/
theorem writeAccepted : Obligations.WriteAccepted := by
  intro s s0 t data strobes n m r e q hacc hlook hk hmem he hq
  obtain ⟨hexec, -, htracker, hwu, hnew⟩ := exec_acceptance hacc
  rw [← hwu] at hlook he ⊢
  rw [← htracker] at hnew
  subst hlook he hq
  rw [hexec, acceptInto_passedWrite rfl hk]
  refine ⟨fun hm => ?_, fun hm => ?_⟩
  · rw [passWrite_transparent (by rw [entered_wu, hm]), countTransparent_entered,
      issueEntry_entered (s := countTransparent s0) hnew]
    simp only [passRequest, newEntry, issued, hmem]
    rfl
  · rw [passWrite_guarded (by rw [entered_wu, hm]) hmem, entered, newEntry, hmem]
    rfl

end Sys2Proof.Safety


/-! # Responses in stream order (R128, R136, R138) -/

namespace Sys2Proof.Safety

open Sys2Proof.Machine

/-! ## The walk over a stream's answered run -/

/-- The walk takes the ANSWERED run at the front of its stream out of the tracker, and nothing else (R136). -/
theorem splitAnswered_run {str : Stream} {l leaving rest : List TrackerEntry} (hn : (l.map TrackerEntry.number).Nodup)
    (hl : (l.filter fun e => e.stream = str) = leaving ++ rest) (ha : ∀ e ∈ leaving, e.phase = .answered)
    (hrest : ∀ e es, rest = e :: es → e.phase ≠ .answered) :
    splitAnswered str false l = (l.filter fun e => e ∉ leaving, leaving) := by
  induction l generalizing leaving with
  | nil =>
    obtain ⟨rfl, -⟩ := List.append_eq_nil_iff.1 hl.symm
    rfl
  | cons x xs ih =>
    obtain ⟨hx, hxs⟩ := List.nodup_cons.1 hn
    by_cases hstr : x.stream = str
    · rw [List.filter_cons_of_pos (by simpa using hstr)] at hl
      cases leaving with
      | nil =>
        have hblocked := splitAnswered_first (l := x :: xs) (by rw [List.filter_cons_of_pos (by simpa using hstr)])
          (hrest _ _ hl.symm) []
        simpa using hblocked
      | cons y ys =>
        obtain ⟨rfl, hys⟩ := List.cons_eq_cons.1 hl
        have hanswered : x.phase = .answered := ha x (by simp)
        have hkept : (xs.filter fun e => e ∉ ys) = xs.filter fun e => e ∉ x :: ys := by
          refine List.filter_congr fun e he => ?_
          have hne : e ≠ x := fun h => hx (List.mem_map.2 ⟨e, he, by rw [h]⟩)
          simp [hne]
        rw [List.filter_cons_of_neg (by simp), ← hkept]
        simp [splitAnswered, hstr, hanswered, ih hxs hys fun e he => ha e (by simp [he])]
    · rw [List.filter_cons_of_neg (by simpa using hstr)] at hl
      have hstay : x ∉ leaving := fun h => by
        have hmem : x ∈ xs.filter fun e => e.stream = str := by rw [hl]; exact List.mem_append_left _ h
        exact hstr (by simpa using (List.mem_filter.1 hmem).2)
      simp [splitAnswered, hstr, ih hxs hl ha, hstay]

/-! ## What leaves -/

/-- The response of an answered entry (R136). -/
def responseOf (e : TrackerEntry) : UpResponse :=
  { stream := e.stream, outcome := e.outcome.getD .refused, data := e.readData, exclusiveResult := e.exclusiveResult }

/-- The report of a response: its bytes, or that it was refused (R136). -/
def reportReturned (u : State) (e : TrackerEntry) : State :=
  report { event := if e.outcome = some .okay then .bytes else .refused, domain := e.domain, window := e.window,
           direction := some e.stream.direction } (if e.outcome = some .okay then e.length else 1) u

/-- The state with responses put out after those before. -/
def putOut (l : List UpResponse) (s : State) : State := { s with out := { s.out with returned := s.out.returned ++ l } }

theorem returnResponse_eq (e : TrackerEntry) (s : State) : returnResponse e s = putOut [responseOf e] (reportReturned s e) := by
  have hcomm : returnResponse e s = reportReturned (putOut [responseOf e] s) e := by
    rcases ho : e.outcome with _ | _ | _ <;> simp only [returnResponse, reportReturned, ho] <;> simp [putOut, responseOf, ho]
  rw [hcomm]
  exact report_comm (fun _ _ _ => rfl) _ _ s

/-- The responses of several entries, put out together beside their reports. -/
theorem foldl_returnResponse (l : List TrackerEntry) (s : State) :
    l.foldl (fun s e => returnResponse e s) s = putOut (l.map responseOf) (l.foldl reportReturned s) := by
  induction l generalizing s with
  | nil => simp [putOut]
  | cons e es ih =>
    have hcomm : es.foldl reportReturned (putOut [responseOf e] (reportReturned s e)) =
        putOut [responseOf e] (es.foldl reportReturned (reportReturned s e)) :=
      List.foldl_hom _ fun u x => report_comm (fun _ _ _ => rfl) _ _ u
    rw [List.foldl_cons, ih, returnResponse_eq, hcomm]
    simp [putOut]

theorem foldl_reportReturned_withTracker (l kept : List TrackerEntry) (s : State) :
    l.foldl reportReturned (withTracker kept s) = withTracker kept (l.foldl reportReturned s) :=
  List.foldl_hom (withTracker kept) fun u _ => report_withTracker _ _ kept u

/-- A stream's answered run leaves: the tracker without it, its responses and its reports (R136). -/
theorem returnStream_run {str : Stream} {s : State} {leaving rest : List TrackerEntry}
    (hn : (s.up.tracker.map TrackerEntry.number).Nodup)
    (hl : (s.up.tracker.filter fun e => e.stream = str) = leaving ++ rest) (ha : ∀ e ∈ leaving, e.phase = .answered)
    (hrest : ∀ e es, rest = e :: es → e.phase ≠ .answered) :
    returnStream str s =
      endResetDrain (withTracker (s.up.tracker.filter fun e => e ∉ leaving)
        (putOut (leaving.map responseOf) (leaving.foldl reportReturned s))) := by
  rw [returnStream, splitAnswered_run hn hl ha hrest]
  show endResetDrain (leaving.foldl (fun s e => returnResponse e s) (withTracker _ s)) = _
  rw [foldl_returnResponse, foldl_reportReturned_withTracker]
  rfl

theorem endResetDrain_eq (s : State) :
    endResetDrain s = { s with up := { s.up with
      portState := if s.up.portState = .resetDrain ∧ s.up.tracker = [] then .accepting else s.up.portState } } := by
  unfold endResetDrain
  split <;> rfl

/-- Settles O32: the walk takes the answered run (`splitAnswered_run`), and the reports touch neither the tracker nor the
outputs. -/
theorem returnInStreamOrder : Obligations.ReturnInStreamOrder := by
  rintro s t str leaving rest hn rfl hl ha hrest
  have hup : (leaving.foldl reportReturned s).up = s.up := foldl_frame (·.up) (fun _ _ => by simp [reportReturned]) _ _
  have hout : (leaving.foldl reportReturned s).out = s.out := foldl_frame (·.out) (fun _ _ => by simp [reportReturned]) _ _
  rw [returnStream_run hn hl ha hrest, endResetDrain_eq]
  refine ⟨?_, ?_, ?_, ?_, ?_, ?_⟩
  · simp only [withTracker]
  · simp only [withTracker, putOut, hout]
  · simp only [withTracker, putOut, hout]
    rfl
  · simp only [withTracker, putOut, hup]
  · simp only [withTracker, putOut, hup]
  · show { leaving.foldl reportReturned s with up := s.up, out := s.out } = leaving.foldl reportReturned s
    rw [← hup, ← hout]

end Sys2Proof.Safety


/-! # The completion of a pass-through request (R134, R140, R152 to R154) -/

namespace Sys2Proof.Safety

open Sys2Proof.Machine

/-- The request of a tracker entry, by its direction (R144). -/
def Source.IsPassOf (src : Source) (e : TrackerEntry) : Prop :=
  src = .passRead e.number ∧ e.stream.direction = .read ∨ src = .passWrite e.number ∧ e.stream.direction = .write

/-- The entry with its outcome and what its response carries (R134, R135). -/
def answeredWith (outcome : UpOutcome) (bytes : List Byte) (result : Option Bool) (e : TrackerEntry) : TrackerEntry :=
  { e with phase := .answered, outcome := some outcome, readData := bytes, exclusiveResult := result }

section Pass

variable {e : TrackerEntry} {s : State}

/-- A discarded request is reported, and its entry becomes FREE without a response (R140). -/
theorem completePass_discard (hf : findEntry e.number s = some e) (hd : e.delivery = .discard) (outcome : UpOutcome)
    (data : List Byte) (excl : Option Bool) :
    completePass e.number outcome data excl s = dropEntry e.number (completeWrite e s) := by
  simp only [completePass, hf, hd]

theorem completePass_okay (hf : findEntry e.number s = some e) (hd : e.delivery = .deliver) (data : List Byte)
    (excl : Option Bool) :
    completePass e.number .okay data excl s =
      returnStream e.stream (changeEntry e.number
        (answeredWith .okay (if e.stream.direction = .read then data else []) excl) (completeWrite e s)) := by
  simp only [completePass, hf, hd]
  cases e.stream.direction <;> rfl

theorem completePass_refused (hf : findEntry e.number s = some e) (hd : e.delivery = .deliver) (data : List Byte)
    (excl : Option Bool) :
    completePass e.number .refused data excl s =
      returnStream e.stream (changeEntry e.number
        (answeredWith .refused (if e.stream.direction = .read then List.replicate e.length 0#8 else []) none)
        (completeWrite e s)) := by
  simp only [completePass, hf, hd]
  cases e.stream.direction <;> rfl

variable {t : Tag}

theorem direction_of_pass (h : Source.IsPassOf t.source e) : t.source.direction = e.stream.direction := by
  rcases h with ⟨h, hd⟩ | ⟨h, hd⟩ <;> rw [h, hd] <;> rfl

theorem requestOkay_pass (h : Source.IsPassOf t.source e) (r : Response) (s : State) :
    requestOkay t r s = completePass e.number .okay r.data r.exclusive s := by
  rcases h with ⟨h, -⟩ | ⟨h, -⟩ <;> rw [requestOkay, h]

/-- A failed pass-through request: its fault with the tag's fields and the entry's host address, then its completion
(R153, R158). -/
theorem requestFailed_pass (h : Source.IsPassOf t.source e) (hf : findEntry e.number s = some e) (kind : FaultKind)
    (reason : DamageReason) :
    requestFailed t kind reason s = completePass e.number .refused [] none
      (reportFault kind
        { initiator := t.initiator, direction := some e.stream.direction, host := some e.host, domain := t.domain,
          window := t.window, memory := some t.address } s) := by
  have hfault : passFault t e.number kind s = reportFault kind
      { initiator := t.initiator, direction := some e.stream.direction, host := some e.host, domain := t.domain,
        window := t.window, memory := some t.address } s := by
    rw [passFault, hf, direction_of_pass h]
    rfl
  rcases h with ⟨h, -⟩ | ⟨h, -⟩ <;> rw [requestFailed, h, ← hfault]

theorem findEntry_congr {u : State} (n : Nat) (h : u.up = s.up) : findEntry n u = findEntry n s := by
  rw [findEntry, h, findEntry]

/-- An expiry before the timer has reached its limit is not taken (R151). -/
theorem expireResponse_early {n limit elapsed : Nat} (ht : findTag n s = some t) (ho : t.state = .outstanding limit elapsed)
    (hlt : elapsed < limit) : expireResponse n s = s := by
  have hdue : t.due = false := by simpa [Tag.due, ho] using hlt
  simp only [expireResponse, ht, hdue]
  rfl

end Pass

/-- Settles O39: a response or a due expiry reaches the entry of its request (`requestOkay_pass`, `requestFailed_pass`), and its
delivery decides how it completes; the fault and the report leave the tracker as it is. -/
theorem passThroughCompletion : Obligations.PassThroughCompletion := by
  rintro s t e r limit elapsed finish fault hr ht ho hsrc he hfault hdiscard hdeliver u rfl
  have hokay (v : State) (hv : v.up = s.up) : requestOkay t r v = finish .okay v := by
    have hf : findEntry e.number v = some e := (findEntry_congr _ hv).trans he
    rw [requestOkay_pass hsrc]
    cases hd : e.delivery with
    | discard => rw [completePass_discard hf hd, hdiscard hd]
    | deliver => rw [completePass_okay hf hd, (hdeliver hd).1]; rfl
  have hfailed (kind : FaultKind) (reason : DamageReason) (v : State) (hv : v.up = s.up) :
      requestFailed t kind reason v = finish .refused (fault kind v) := by
    have hf : findEntry e.number (fault kind v) = some e := by
      rw [hfault, findEntry_congr _ (by simpa using hv), he]
    rw [requestFailed_pass hsrc ((findEntry_congr _ hv).trans he), ← hfault]
    cases hd : e.delivery with
    | discard => rw [completePass_discard hf hd, hdiscard hd]
    | deliver => rw [completePass_refused hf hd, (hdeliver hd).2]; rfl
  obtain ⟨htakeOkay, htakeError⟩ := takeResponse_outstanding ht ho
  have hexecOkay : exec (.responseOkay r) s = .next (raiseRingLow s (takeResponse .okay r s)) := event_high hr
  have hexecError : exec (.responseError r) s = .next (raiseRingLow s (takeResponse .error r s)) := event_high hr
  have hexecExpiry : exec (.responseTimerExpiry r.tag) s = .next (raiseRingLow s (expireResponse r.tag s)) := event_high hr
  refine ⟨?_, ?_, fun hlt => event_idle (expireResponse_early ht ho hlt), fun hle => ?_⟩
  · rw [hexecOkay, htakeOkay, hokay (dropTag r.tag s) rfl]
    rfl
  · rw [hexecError, htakeError, hfailed _ _ (dropTag r.tag s) rfl]
    rfl
  · rw [hexecExpiry, expireResponse_due ht ho hle, direction_of_pass hsrc, hfailed _ _ _ (by simp)]
    rfl

end Sys2Proof.Safety


/-! # Grants (R146, R147, R150, R151) -/

namespace Sys2Proof.Safety

open Sys2Proof.Machine

section Arbiter

variable {dp : DownstreamPort} {r : Request} {rs : List Request}

/-- No tag is FREE exactly when all 256 numbers are in use (R150). -/
theorem freeTag_eq_none_iff : freeTag dp = none ↔ ∀ m, m < 256 → ∃ t ∈ dp.tags, t.number = m := by
  simp [freeTag, Config.tags]

theorem choose_none (hu : dp.urgent = []) (hp : dp.passThrough = []) (hb : dp.background = []) : choose dp = none := by
  simp [choose, chooseBackground, hu, hp, hb]

/-- Urgent requests come before the two other classes (R146). -/
theorem choose_urgent (hu : dp.urgent = r :: rs) :
    choose dp = some { request := r, port := { dp with urgent := rs } } := by
  simp only [choose, hu]

/-- Without background work a pass-through grant is not counted (R147). -/
theorem choose_passAlone (hu : dp.urgent = []) (hp : dp.passThrough = r :: rs) (hb : dp.background = []) :
    choose dp = some { request := r, port := { dp with passThrough := rs } } := by
  simp [choose, choosePass, hu, hp, hb]

/-- Beside waiting background work a pass-through request is granted below the Copy Share, and counted (R146, R147). -/
theorem choose_passCounted (hu : dp.urgent = []) (hp : dp.passThrough = r :: rs) (hb : dp.background ≠ [])
    (hshare : dp.shareCounter < dp.copyShare) :
    choose dp = some { request := r, port := { dp with passThrough := rs, shareCounter := dp.shareCounter + 1 } } := by
  simp [choose, choosePass, hu, hp, hb, hshare]

/-- Background work is granted alone or at the Copy Share, and the counter starts again (R146, R147). -/
theorem choose_background (hu : dp.urgent = []) (hb : dp.background = r :: rs)
    (h : dp.passThrough = [] ∨ dp.copyShare ≤ dp.shareCounter) :
    choose dp = some { request := r, port := { dp with background := rs, shareCounter := 0 } } := by
  rcases h with hp | hshare
  · simp [choose, chooseBackground, hu, hb, hp]
  · simp [choose, chooseBackground, hu, hb, hshare]

variable {s : State}

/-- Each of the three conditions of R146 is needed. -/
theorem grantNext_waits (h : 64 ≤ outstandingTags s.dp ∨ freeTag s.dp = none ∨ choose s.dp = none) : grantNext s = s := by
  rcases grantNext_cases s with he | ⟨n, c, ho, hn, hc, -⟩
  · exact he
  · simp [hn, hc, Nat.not_le.2 ho] at h

/-- With the three conditions of R146 the arbiter's choice takes the lowest FREE tag. -/
theorem grantNext_taken {n : Nat} {c : Choice} (ho : outstandingTags s.dp < 64) (hn : freeTag s.dp = some n)
    (hc : choose s.dp = some c) :
    grantNext s = { s with
      dp := { c.port with tags := s.dp.tags ++ [newTag n s.dp.responseLimit c.request] }
      out := { s.out with presented := s.out.presented ++ [(n, c.request)] } } := by
  have hlimit : outstandingTags s.dp < Config.outstandingLimit := ho
  rw [grantNext, if_pos hlimit, hn, hc, ← (choose_port hc).1]

end Arbiter

/-- Settles O38: a condition that fails leaves the request waiting (`grantNext_waits`); otherwise the grant is the arbiter's
choice (`choose_urgent` to `choose_background`) with the lowest FREE tag (`freeTag_eq`). -/
theorem grantRule : Obligations.GrantRule := by
  intro s n granted hr hgranted
  refine ⟨fun ho => event_idle (grantNext_waits (.inl ho)),
    fun hall => event_idle (grantNext_waits (.inr (.inl (freeTag_eq_none_iff.2 hall)))),
    fun hu hp hb => event_idle (grantNext_waits (.inr (.inr (choose_none hu hp hb)))), fun ho hn hfree hlowest => ?_⟩
  have hgrant {c : Choice} (hc : choose s.dp = some c) : exec .grant s = .next (granted c.port c.request) := by
    have htaken := grantNext_taken ho (freeTag_eq hn hfree hlowest) hc
    have hrw : (grantNext s).rw = s.rw := by rw [htaken]
    exact (event_of_rw hr hrw).trans (by rw [htaken, hgranted]; rfl)
  exact ⟨fun r rs hu => hgrant (choose_urgent hu), fun r rs hu hp hb => hgrant (choose_passAlone hu hp hb),
    fun r rs hu hp hb hshare => hgrant (choose_passCounted hu hp hb hshare),
    fun r rs hu hb h => hgrant (choose_background hu hb h)⟩

end Sys2Proof.Safety


/-! # SET_TIMEOUTS and SET_COPY_SHARE (R148, R185) -/

namespace Sys2Proof.Safety

open Sys2Proof.Machine

theorem badLimit_iff {n : Nat} : badLimit n = true ↔ n = 0 ∨ 65535 < n := by
  simp [badLimit]

theorem setTimeouts_badParam {r h : Nat} (s : State) (hbad : r = 0 ∨ 65535 < r ∨ h = 0 ∨ 65535 < h) :
    setTimeouts r h s = refuse .badParam s := by
  refine if_pos ?_
  rw [Bool.or_eq_true, badLimit_iff, badLimit_iff]
  omega

theorem setTimeouts_taken {r h : Nat} (s : State) (hr1 : 1 ≤ r) (hr2 : r ≤ 65535) (hh1 : 1 ≤ h) (hh2 : h ≤ 65535) :
    setTimeouts r h s = taken (beBytes 2 r ++ beBytes 2 h)
      { s with dp := { s.dp with responseLimit := r }, ce := { s.ce with holdLimit := h } } := by
  refine if_neg ?_
  rw [Bool.or_eq_true, badLimit_iff, badLimit_iff]
  omega

theorem setCopyShare_taken {n : Nat} (s : State) (h1 : 1 ≤ n) (h2 : n ≤ 255) :
    setCopyShare n s = taken [BitVec.ofNat 8 n] { s with dp := { s.dp with copyShare := n } } := by
  rw [setCopyShare, if_neg (by omega), beBytes_one]

/-- Settles O16: the range check of each command, and the settings that it writes alone. -/
theorem limitsAndShareRule : Obligations.LimitsAndShareRule := by
  intro s hr
  refine ⟨fun r h hbad => ?_, fun r h hr1 hr2 hh1 hh2 => ?_, fun n hbad => ?_, fun n h1 h2 => ?_⟩
  · exact refuses_of_body (body := setTimeouts r h) rfl hr (setTimeouts_badParam s hbad)
  · exact answers_of_body (body := setTimeouts r h) rfl hr (setTimeouts_taken s hr1 hr2 hh1 hh2) rfl
  · exact refuses_of_body (body := setCopyShare n) rfl hr (if_pos hbad)
  · exact answers_of_body (body := setCopyShare n) rfl hr (setCopyShare_taken s h1 h2) rfl

end Sys2Proof.Safety


/-! # Late responses (R155, R159) -/

namespace Sys2Proof.Safety

open Sys2Proof.Machine

section Late

variable {r : Response} {s : State}

/-- Each row that presents a response takes it in one way, with its result. -/
theorem exec_response {c : Instr} {result : DsResult}
    (hc : c = .lateResponse result r ∨ c = .responseOkay r ∨ c = .responseError r) (s : State) :
    ∃ d, exec c s = event (takeResponse d r) s := by
  rcases hc with rfl | rfl | rfl
  · exact ⟨result, rfl⟩
  · exact ⟨.okay, rfl⟩
  · exact ⟨.error, rfl⟩

/-- On a FREE tag the result is not looked at, and nothing is known but the direction (R155). -/
theorem takeResponse_free (h : ∀ t ∈ s.dp.tags, t.number ≠ r.tag) (d : DsResult) :
    takeResponse d r s = reportFault .lateResponse { direction := some r.direction } s := by
  have hnone : findTag r.tag s = none := List.find?_eq_none.2 (by simpa using h)
  simp only [takeResponse, hnone]

/-- On an EXPIRED tag the result is not looked at; the fault carries what the tag keeps (R155). -/
theorem takeResponse_expired {t : Tag} (ht : findTag r.tag s = some t) (hx : t.state = .expired) (d : DsResult) :
    takeResponse d r s = reportFault .lateResponse
      { initiator := t.initiator, direction := some t.source.direction, domain := t.domain, window := t.window,
        memory := some t.address } (dropTag r.tag s) := by
  simp only [takeResponse, ht, hx, lateOnTag, (findTag_some ht).2]

/-- The timer of an EXPIRED tag does not run (R154). -/
theorem expireResponse_expired {n : Nat} {t : Tag} (ht : findTag n s = some t) (hx : t.state = .expired) :
    expireResponse n s = s := by
  simp [expireResponse, ht, Tag.due, hx]

end Late

/-- Settles O40: whatever row presents it (`exec_response`), a response on a FREE or an EXPIRED tag is taken as a late one;
on an OUTSTANDING tag LATE_RESPONSE is the row of its result by definition. -/
theorem lateResponse : Obligations.LateResponse := by
  intro s r result hr
  refine ⟨fun hfree c hc => ?_, fun t ht hx c hc => ?_, fun _ _ => ⟨rfl, rfl⟩,
    fun t ht hx => event_idle (expireResponse_expired ht hx)⟩
  · obtain ⟨d, hexec⟩ := exec_response hc s
    rw [hexec, event_of_rw hr (by simp [takeResponse_free hfree]), takeResponse_free hfree]
  · obtain ⟨d, hexec⟩ := exec_response hc s
    rw [hexec, event_of_rw hr (by simp [takeResponse_expired ht hx]), takeResponse_expired ht hx]
    rfl

end Sys2Proof.Safety


/-! # Faults (R160, R161, R163) -/

namespace Sys2Proof.Safety

open Sys2Proof.Machine

section Faults

variable {s : State}

/-! ## A fault reported -/

/-- With fewer than 8 records held a fault is appended and FAULT_QUEUED raised (R160, R161). -/
theorem reportFault_queued (kind : FaultKind) (f : FaultFields) (h : s.fq.records.length < 8) :
    reportFault kind f s = { s with
      fq := { records := s.fq.records ++ [{ seq := s.fq.nextSeq, kind := kind, fields := f, timestamp := s.timestamp }]
              lost := s.fq.lost, nextSeq := s.fq.nextSeq + 1 }
      au := { s.au with pending := s.au.pending ||| 0x08#8 } } :=
  if_pos h

/-- With 8 records held a fault is lost and FAULT_LOST raised; it takes its sequence all the same (R160, R161). -/
theorem reportFault_lost (kind : FaultKind) (f : FaultFields) (h : 8 ≤ s.fq.records.length) :
    reportFault kind f s = { s with
      fq := { s.fq with lost := min 255 (s.fq.lost + 1), nextSeq := s.fq.nextSeq + 1 }
      au := { s.au with pending := s.au.pending ||| 0x10#8 } } :=
  if_neg (Nat.not_lt.2 h)

/-- The lost count stays at 255 (R161). -/
theorem min_succ_saturates {lost : Nat} (h : lost ≤ 255) :
    min 255 (lost + 1) = if lost = 255 then 255 else lost + 1 := by
  split <;> omega

/-! ## READ_FAULT -/

theorem bits_seven (b0 b1 b2 b3 b4 b5 b6 : Bool) :
    bits [b0, b1, b2, b3, b4, b5, b6] =
      b0.toNat + 2 * b1.toNat + 4 * b2.toNat + 8 * b3.toNat + 16 * b4.toNat + 32 * b5.toNat + 64 * b6.toNat := by
  simp only [bits]
  omega

/-- A direction in a fault record is 1 for a write; a read and an absent direction are 0 (Table 12.1.6). -/
theorem optBytes_direction (d : Option Direction) :
    optBytes 1 (d.map directionCode) = [if d = some .write then 1#8 else 0#8] := by
  rcases d with _ | _ | _ <;> rfl

/-- The record that READ_FAULT gives, field by field (Table 12.1.6). -/
theorem faultData_eq (lost left : Nat) (r : FaultRecord) :
    faultData lost left r =
      [BitVec.ofNat 8 lost, BitVec.ofNat 8 left] ++ beBytes 2 r.seq.toNat ++
        [BitVec.ofNat 8 r.kind.code,
          BitVec.ofNat 8 (r.fields.initiator.isSome.toNat + 2 * r.fields.direction.isSome.toNat +
            4 * r.fields.host.isSome.toNat + 8 * r.fields.domain.isSome.toNat + 16 * r.fields.window.isSome.toNat +
            32 * r.fields.memory.isSome.toNat + 64 * r.fields.granule.isSome.toNat),
          BitVec.ofNat 8 (r.fields.initiator.getD 0), if r.fields.direction = some .write then 1#8 else 0#8] ++
        beBytes 5 (r.fields.host.getD 0) ++
        [BitVec.ofNat 8 (r.fields.domain.getD 255), BitVec.ofNat 8 (r.fields.window.getD 255)] ++
        beBytes 5 (r.fields.memory.getD 0) ++ beBytes 4 (r.fields.granule.getD 0) ++ beBytes 4 r.timestamp.toNat := by
  simp only [faultData, bits_seven, optBytes_direction]
  simp only [optBytes, codeOr255, beBytes_one, List.append_assoc, List.cons_append, List.nil_append]

theorem readFault_empty (h : s.fq.records = []) :
    readFault s = ({ status := .empty, data := [BitVec.ofNat 8 s.fq.lost, 0#8] }, s) := by
  simp only [readFault, h, beBytes_one, List.cons_append, List.nil_append]

/-- The oldest record is read and removed, and the lost count cleared with it (R163). -/
theorem readFault_taken {r : FaultRecord} {rs : List FaultRecord} (h : s.fq.records = r :: rs) :
    readFault s = taken (faultData s.fq.lost rs.length r) { s with fq := { s.fq with records := rs, lost := 0 } } := by
  rw [readFault, h]

end Faults

/-- Settles O50: a fault by the room left in the queue (`reportFault_queued`, `reportFault_lost`), and READ_FAULT by the record
in front (`readFault_empty`, `readFault_taken`) with its bytes (`faultData_eq`). -/
theorem faultsRule : Obligations.FaultsRule := by
  intro s kind f
  refine ⟨reportFault_queued kind f, fun hfull hlost => ?_, fun hr => ⟨fun hnone => ?_, fun r rs g hrecords hg => ?_⟩⟩
  · rw [reportFault_lost kind f hfull, min_succ_saturates hlost]
  · exact answers_of_unchanged (body := readFault) rfl hr (readFault_empty hnone)
  · subst hg
    have hbody := (readFault_taken hrecords).trans (congrArg (taken · _) (faultData_eq _ _ r))
    exact answers_of_body (body := readFault) rfl hr hbody rfl

end Sys2Proof.Safety


/-! # Reports to the Traffic Monitor (R167, R170) -/

namespace Sys2Proof.Safety

open Sys2Proof.Machine

/-! ## The filter (Table 10.2.1) -/

/-- A filter field that does not apply matches whatever it holds (R167). -/
theorem fieldMatches_iff {α : Type} [DecidableEq α] {applies : Bool} {filter reported : Option α} :
    fieldMatches applies filter reported = true ↔ (applies = true → filter = none ∨ filter = reported) := by
  cases applies <;> simp [fieldMatches]

theorem usesDomain_iff {e : CounterEvent} :
    e.usesDomain = true ↔ e ∈ [.accepted, .refused, .bytes, .held, .marked, .dsTimeouts] := by
  cases e <;> decide

/-- The window filter applies to the events of the domain filter (Table 10.2.1). -/
theorem usesWindow_eq_usesDomain (e : CounterEvent) : e.usesWindow = e.usesDomain := by
  cases e <;> rfl

theorem usesDirection_iff {e : CounterEvent} : e.usesDirection = true ↔ e ∈ [.accepted, .refused, .bytes, .dsTimeouts] := by
  cases e <;> decide

theorem takes_iff {c : Counter} {r : Report} :
    c.takes r = true ↔ c.enabled = true ∧ c.event = r.event ∧
      (r.event ∈ [.accepted, .refused, .bytes, .held, .marked, .dsTimeouts] →
        (c.domain = none ∨ c.domain = r.domain) ∧ (c.window = none ∨ c.window = r.window)) ∧
      (r.event ∈ [.accepted, .refused, .bytes, .dsTimeouts] → c.direction = none ∨ c.direction = r.direction) := by
  rw [← usesDomain_iff, ← usesDirection_iff]
  simp only [Counter.takes, usesWindow_eq_usesDomain, Bool.and_eq_true, decide_eq_true_eq, fieldMatches_iff]
  tauto

/-! ## The sum -/

section Report

variable {s : State} {r : Report} {amount : Counter → Nat} {n : Nat} {c : Counter}

theorem wraps_iff {k : Nat} : c.wraps k = true ↔ 2 ^ 48 ≤ c.value + k := decide_eq_true_iff

theorem add_of_lt {k : Nat} (h : c.value + k < 2 ^ 48) : c.add k = { c with value := c.value + k } :=
  if_neg fun hw => Nat.not_le.2 h (wraps_iff.1 hw)

/-- Past 2^48 − 1 the sum goes on from 0, and the counter's flag is set (R170). -/
theorem add_of_le {k : Nat} (h : 2 ^ 48 ≤ c.value + k) :
    c.add k = { c with value := c.value + k - 2 ^ 48, wrap := true } :=
  if_pos (wraps_iff.2 h)

/-- A counter after a report depends on that counter alone. -/
theorem reportBy_counter (h : s.tm.counters[n]? = some c) :
    (reportBy r amount s).tm.counters[n]? = some (if c.takes r then c.add (amount c) else c) := by
  rw [reportBy_tm, Vector.getElem?_map, h, Option.map_some]

/-! ## What a report changes -/

theorem reportBy_eq (r : Report) (amount : Counter → Nat) (s : State) :
    reportBy r amount s =
      { s with tm := (reportBy r amount s).tm, au := { s.au with pending := (reportBy r amount s).au.pending } } := by
  simp only [reportBy]
  split <;> rfl

/-- One counter that takes the report and wraps raises COUNTER_WRAP (R170). -/
theorem reportBy_pending_of_wraps (hc : s.tm.counters[n]? = some c) (ht : c.takes r = true)
    (hw : c.wraps (amount c) = true) : (reportBy r amount s).au.pending = s.au.pending ||| 0x40#8 := by
  have hany : (s.tm.counters.toList.any fun c => c.takes r && c.wraps (amount c)) = true :=
    List.any_eq_true.2 ⟨c, Vector.mem_toList_iff.2 (Vector.mem_of_getElem? hc), by rw [ht, hw]; rfl⟩
  simp only [reportBy, hany, if_true, raiseCause_au, Cause.bit]

/-- Without a wrap no cause is raised. -/
theorem reportBy_pending_of_fits (h : ∀ c ∈ s.tm.counters, c.wraps (amount c) = false) :
    (reportBy r amount s).au.pending = s.au.pending := by
  have hany : (s.tm.counters.toList.any fun c => c.takes r && c.wraps (amount c)) = false :=
    List.any_eq_false.2 fun c hc => by simp [h c (Vector.mem_toList_iff.1 hc)]
  simp only [reportBy, hany, Bool.false_eq_true, if_false]

end Report

/-- Settles O49: the frame (`reportBy_eq`), one counter by the filter (`takes_iff`) and by whether the sum passes 2^48 − 1
(`add_of_lt`, `add_of_le`), and the cause by whether some counter wraps. -/
theorem counterCounts : Obligations.CounterCounts := by
  rintro s t r amount rfl
  refine ⟨reportBy_eq r amount s, fun n c takes hc htakes => ?_, fun hfits => reportBy_pending_of_fits fun c hc => ?_⟩
  · have hcounter := reportBy_counter (r := r) (amount := amount) hc
    rw [← takes_iff] at htakes
    refine ⟨fun hno => ?_, fun hyes hlt => ?_, fun hyes hle => ⟨?_, ?_⟩⟩
    · rw [hcounter, if_neg (mt htakes.2 hno)]
    · rw [hcounter, if_pos (htakes.1 hyes), add_of_lt hlt]
    · rw [hcounter, if_pos (htakes.1 hyes), add_of_le hle]
    · exact reportBy_pending_of_wraps hc (htakes.1 hyes) (wraps_iff.2 hle)
  · obtain ⟨n, hn⟩ := Vector.mem_iff_getElem?.1 hc
    exact Bool.eq_false_iff.2 fun hw => Nat.not_le.2 (hfits n c hn) (wraps_iff.1 hw)

end Sys2Proof.Safety


/-! # SET_COUNTER, READ_COUNTER and CLEAR_COUNTER (R173, R174, R175) -/

namespace Sys2Proof.Safety

open Sys2Proof.Machine

/-! ## The codes of a counter's fields -/

theorem counterEventOf_eq_some {n : Nat} {e : CounterEvent} : counterEventOf n = some e ↔ n = e.code := by
  constructor
  · intro h
    unfold counterEventOf at h
    split at h <;> cases h <;> rfl
  · rintro rfl
    cases e <;> rfl

theorem counterEvent_code_le (e : CounterEvent) : e.code ≤ 11 := by cases e <;> decide

theorem scopeOf_eq_some {n : Nat} {sc : Scope} : scopeOf n = some sc ↔ n = sc.code := by
  rcases n with _ | _ | n <;> cases sc <;> simp [scopeOf, Scope.code]

theorem scope_code_le (sc : Scope) : sc.code ≤ 1 := by cases sc <;> decide

theorem directionFilterOf_eq_some {n : Nat} {r : Option Direction} :
    directionFilterOf n = some r ↔ n = directionFilterCode r := by
  rcases n with _ | _ | _ | n <;> rcases r with _ | _ | _ <;>
    simp [directionFilterOf, directionFilterCode, directionCode]

theorem directionFilterCode_le (r : Option Direction) : directionFilterCode r ≤ 2 := by
  rcases r with _ | _ | _ <;> decide

theorem numberOr255_range {bound n : Nat} {d : Option Nat} (h : numberOr255 bound n = some d) : n < bound ∨ n = 255 := by
  by_contra hout
  rw [not_or] at hout
  rw [numberOr255, if_neg hout.1, if_neg hout.2] at h
  cases h

/-- With 255 outside the bound, the code 255 is ANY alone. -/
theorem numberOr255_getD {bound : Nat} {d : Option Nat} (hb : bound ≤ 255) (hd : ∀ x, d = some x → x < bound) :
    numberOr255 bound (d.getD 255) = some d := by
  cases d with
  | none => exact (if_neg (Nat.not_lt.2 hb)).trans (if_pos rfl)
  | some x => exact if_pos (hd x rfl)

/-! ## The configuration -/

section Commands

variable {s : State} {n e d w r sc en : Nat} {c : Counter}

theorem configureCounter_range {changed : Counter} (h : configureCounter e d w r sc en c = some changed) :
    e ≤ 11 ∧ (d < 16 ∨ d = 255) ∧ (w < 64 ∨ w = 255) ∧ r ≤ 2 ∧ sc ≤ 1 ∧ en ≤ 1 := by
  unfold configureCounter at h
  split at h
  next event domain window direction scope enable he hd hw hr hsc hen =>
    rw [counterEventOf_eq_some.1 he, directionFilterOf_eq_some.1 hr, scopeOf_eq_some.1 hsc, flagOf_eq_some.1 hen]
    exact ⟨counterEvent_code_le event, numberOr255_range hd, numberOr255_range hw, directionFilterCode_le direction,
      scope_code_le scope, enable.toNat_le⟩
  next => cases h

theorem configureCounter_codes (c : Counter) (e : CounterEvent) {d w : Option Nat} (r : Option Direction) (sc : Scope)
    (en : Bool) (hd : ∀ x, d = some x → x < 16) (hw : ∀ x, w = some x → x < 64) :
    configureCounter e.code (d.getD 255) (w.getD 255) (directionFilterCode r) sc.code en.toNat c =
      some { c with event := e, domain := d, window := w, direction := r, scope := sc, enabled := en } := by
  rw [configureCounter, counterEventOf_eq_some.2 rfl, numberOr255_getD (by decide) hd, numberOr255_getD (by decide) hw,
    directionFilterOf_eq_some.2 rfl, scopeOf_eq_some.2 rfl, flagOf_eq_some.2 rfl]

theorem counterConfig_eq (n : Nat) (c : Counter) :
    counterConfig n c = [BitVec.ofNat 8 n, BitVec.ofNat 8 c.event.code, BitVec.ofNat 8 (c.domain.getD 255),
      BitVec.ofNat 8 (c.window.getD 255), BitVec.ofNat 8 (directionFilterCode c.direction), BitVec.ofNat 8 c.scope.code,
      BitVec.ofNat 8 c.enabled.toNat] := by
  simp only [counterConfig, beBytes_one, codeOr255, List.cons_append, List.nil_append]

/-! ## The commands -/

/-- There are eight counters (R166). -/
theorem counters_getElem?_none (s : State) (h : 7 < n) : s.tm.counters[n]? = none :=
  Vector.getElem?_eq_none h

theorem setCounter_badParam (s : State)
    (h : 7 < n ∨ 11 < e ∨ (15 < d ∧ d ≠ 255) ∨ (63 < w ∧ w ≠ 255) ∨ 2 < r ∨ 1 < sc ∨ 1 < en) :
    setCounter n e d w r sc en s = refuse .badParam s := by
  cases hc : s.tm.counters[n]? with
  | none => rw [setCounter, hc]
  | some c =>
    cases hchanged : configureCounter e d w r sc en c with
    | none => simp only [setCounter, hc, hchanged]
    | some changed =>
      have hn : n < 8 := (Vector.getElem?_eq_some_iff.1 hc).1
      have hrange := configureCounter_range hchanged
      omega

theorem setCounter_taken {changed : Counter} (hc : s.tm.counters[n]? = some c)
    (h : configureCounter e d w r sc en c = some changed) :
    setCounter n e d w r sc en s = taken (counterConfig n changed) (setCounterAt n changed s) := by
  simp only [setCounter, hc, h]

theorem readCounter_badParam (s : State) (h : 7 < n) : readCounter n s = refuse .badParam s := by
  rw [readCounter, counters_getElem?_none s h]

theorem readCounter_taken (hc : s.tm.counters[n]? = some c) :
    readCounter n s = taken (counterConfig n c ++ [BitVec.ofNat 8 (c.wrap.toNat + 2 * c.snapWrap.toNat)] ++
      beBytes 6 c.value ++ beBytes 6 c.snapValue ++ beBytes 4 (c.snapEpoch.getD 0)) s := by
  simp only [readCounter, hc, bits_pair, beBytes_one, optBytes]

theorem clearCounter_badParam (s : State) (h : 7 < n) : clearCounter n s = refuse .badParam s := by
  rw [clearCounter, counters_getElem?_none s h]

theorem clearCounter_taken (hc : s.tm.counters[n]? = some c) :
    clearCounter n s = taken [] (setCounterAt n { c with value := 0, wrap := false } s) := by
  rw [clearCounter, hc]

end Commands

/-- Settles O51: the direction codes and the layout named are the model's (`counterConfig_eq`); then each command's check, and
what it answers for a counter that is there. -/
theorem counterCommands : Obligations.CounterCommands := by
  intro s code config hr hread hwrite hany hlayout
  have hcode : code = directionFilterCode := by
    funext r
    rcases r with _ | _ | _
    · exact hany
    · exact hread
    · exact hwrite
  have hconfig (n : Nat) (c : Counter) : counterConfig n c = config n c := by
    rw [counterConfig_eq, hlayout, hcode]
  refine ⟨fun n e d w r sc en hbad => ?_, fun n hn => ⟨?_, ?_⟩, fun n c hc => ⟨?_, ?_, ?_⟩⟩
  · exact refuses_of_body (body := setCounter n e d w r sc en) rfl hr (setCounter_badParam s hbad)
  · exact refuses_of_body (body := readCounter n) rfl hr (readCounter_badParam s hn)
  · exact refuses_of_body (body := clearCounter n) rfl hr (clearCounter_badParam s hn)
  · rintro e d w r sc en changed hd hw rfl
    have hchanged := configureCounter_codes c e r sc en (fun x hx => Nat.lt_succ_of_le (hd x hx))
      (fun x hx => Nat.lt_succ_of_le (hw x hx))
    rw [hcode, ← hconfig]
    exact answers_of_body (body := setCounter n _ _ _ _ _ _) rfl hr (setCounter_taken hc hchanged) rfl
  · rw [← hconfig]
    exact answers_of_body (body := readCounter n) rfl hr (readCounter_taken hc) rfl
  · exact answers_of_body (body := clearCounter n) rfl hr (clearCounter_taken hc) rfl

end Sys2Proof.Safety


/-! # Reading back a command's code and parameters (R187, Tables 11.4.1 and 12.1.5) -/

namespace Sys2Proof

open Sys2Proof.Laws.FrameLength

/-! ## Fields of a parameter list -/

/-- The bytes of a number continue a number read so far. -/
theorem foldl_beBytes (n v acc : Nat) :
    (beBytes n v).foldl (fun m b => m * 256 + b.toNat) acc = acc * 256 ^ n + v % 256 ^ n := by
  induction n generalizing acc with
  | zero => simp [beBytes, Nat.mod_one]
  | succ n ih =>
    simp only [beBytes, List.foldl_cons, ih, BitVec.toNat_ofNat, Nat.mod_pow_succ, Nat.reducePow]
    ring

theorem beNat_beBytes {n v : Nat} (h : v < 256 ^ n) : beNat (beBytes n v) = v := by
  rw [beNat, foldl_beBytes, Nat.mod_eq_of_lt h, Nat.zero_mul, Nat.zero_add]

/-- A number that fits its bytes is read back from them. -/
theorem field_beBytes {n v : Nat} (h : fitsBytes n v = true) : field (beBytes n v) 0 n = v := by
  rw [field, List.drop_zero, List.take_of_length_le (length_beBytes n v).le, beNat_beBytes (of_decide_eq_true h)]

theorem field_append_left {xs ys : List Byte} {offset n : Nat} (h : offset + n ≤ xs.length) :
    field (xs ++ ys) offset n = field xs offset n := by
  rw [field, List.drop_append_of_le_length (by omega), List.take_append_of_le_length (by simp; omega), field]

theorem field_append_right {xs ys : List Byte} {offset n : Nat} (h : xs.length ≤ offset) :
    field (xs ++ ys) offset n = field ys (offset - xs.length) n := by
  rw [field, List.drop_append, List.drop_eq_nil_of_le h, List.nil_append, field]

theorem ofNat_field_singleton (x : Byte) : BitVec.ofNat 8 (field [x] 0 1) = x := by
  simp [field, beNat]

/-! ## Every management command -/

/-- The parameters of a command have the length that Table 12.1.5 gives its code. -/
theorem paramLength_encode {i : Instr} {code : Byte} {params : List Byte} (h : encode i = some (code, params)) :
    paramLength code = some params.length := by
  cases i <;> cases h <;> simp [paramLength]

/-- The longest parameters are the 20 bytes of INSTALL_WINDOW. -/
theorem paramLength_le {code : Byte} {n : Nat} (h : paramLength code = some n) : n ≤ 20 := by
  unfold paramLength at h
  split at h <;> cases h <;> decide

/-- Each field of a well-formed command is found at its place and fits its bytes. -/
theorem commandOfFields_encode {i : Instr} {code : Byte} {params : List Byte} (hwf : i.wf = true)
    (h : encode i = some (code, params)) : commandOfFields code params = some i := by
  cases i <;> cases h
  case unconfigureRing base =>
    have hslots : field (beBytes 2 0) 0 2 = 0 := field_beBytes rfl
    simp_all [Instr.wf, commandOfFields, field_append_left, field_append_right, field_beBytes]
  case setAlertEnable causes | ackAlerts causes => simp [commandOfFields, ofNat_field_singleton]
  all_goals simp_all [Instr.wf, commandOfFields, field_append_left, field_append_right, field_beBytes]

/-- A well-formed command is read back from its code and its parameters. -/
theorem commandOf_encode {i : Instr} {code : Byte} {params : List Byte} (hwf : i.wf = true)
    (h : encode i = some (code, params)) : commandOf code params = some i := by
  rw [commandOf, if_pos (paramLength_encode h), commandOfFields_encode hwf h]

end Sys2Proof


/-! # The management port's events and the responses it composes -/

namespace Sys2Proof.Safety

open Sys2Proof.Machine

/-! ## The port in the state -/

@[simp] theorem withPort_mp (mp : ManagementPort) (s : State) : (withPort mp s).mp = mp := rfl

@[simp] theorem withPort_pins (mp : ManagementPort) (s : State) : (withPort mp s).pins = s.pins := rfl

@[simp] theorem withPort_withPort (mp mp' : ManagementPort) (s : State) : withPort mp (withPort mp' s) = withPort mp s := rfl

theorem withPort_self (s : State) : withPort s.mp s = s := rfl

theorem exec_requestFrame {s : State} (bytes : List Byte) (hr : s.pins.rstN = true) :
    exec (.requestFrame bytes) s = .next (withPort (bytes.foldl takeByte s.mp) s) :=
  event_of_rw (f := fun s => { s with mp := bytes.foldl takeByte s.mp }) hr rfl

theorem exec_frameRefusal {s : State} (hr : s.pins.rstN = true) : exec .frameRefusal s = .next (refuseFrame s) :=
  event_of_rw hr (by simp)

theorem exec_responseByteShiftedOut {s : State} (hr : s.pins.rstN = true) :
    exec .responseByteShiftedOut s = .next (withPort (shiftOut s.mp) s) :=
  event_of_rw (f := fun s => { s with mp := shiftOut s.mp }) hr rfl

/-- A response with a status alone has no data (R187). -/
theorem responseFrame_plain (tag : Byte) (st : Status) :
    responseFrame tag (plain st) = bareResponse (BitVec.ofNat 8 st.code) tag := rfl

end Sys2Proof.Safety


/-! # The request frame, byte by byte (R177, R178, Table 11.2.1) -/

namespace Sys2Proof.Safety

open Sys2Proof.Machine

/-! ## One byte -/

/-- A byte outside RECEIVING is ignored. -/
theorem takeByte_ignored {mp : ManagementPort} (h : mp.exchange ≠ .receiving) (b : Byte) : takeByte mp b = mp := by
  unfold takeByte
  split <;> simp_all

theorem foldl_takeByte_ignored {mp : ManagementPort} (h : mp.exchange ≠ .receiving) (bytes : List Byte) :
    bytes.foldl takeByte mp = mp := by
  induction bytes with
  | nil => rfl
  | cons b rest ih => rw [List.foldl_cons, takeByte_ignored h, ih]

/-- After a byte that ends the frame the rest of the exchange is ignored. -/
theorem foldl_takeByte_ended {mp mp' : ManagementPort} {b : Byte} (h : takeByte mp b = mp') (he : mp'.exchange ≠ .receiving)
    (rest : List Byte) : (b :: rest).foldl takeByte mp = mp' := by
  rw [List.foldl_cons, h, foldl_takeByte_ignored he]

section Receiving

variable {mp : ManagementPort} {b : Byte} (he : mp.exchange = .receiving)
include he

theorem takeByte_badStart (h0 : mp.received = []) (hb : b ≠ requestStart) : takeByte mp b = badFrame 0#8 mp := by
  simp [takeByte, he, h0, hb]

theorem takeByte_start : takeByte { mp with received := [] } requestStart = { mp with received := [requestStart] } := by
  simp [takeByte, he]

/-- The command code and the tag are not judged. -/
theorem takeByte_head {rx : List Byte} (hn : rx.length = 1 ∨ rx.length = 2) :
    takeByte { mp with received := rx } b = { mp with received := rx ++ [b] } := by
  simp only [takeByte, he, List.length_append, List.length_singleton]
  rw [if_neg (by omega), if_neg (by omega), if_neg (by omega)]

theorem takeByte_badLength {start code tag : Byte} (hb : 60 < b.toNat) :
    takeByte { mp with received := [start, code, tag] } b = badFrame tag mp := by
  simp [takeByte, he, hb, badFrame, respond]

theorem takeByte_length {start code tag : Byte} (hb : b.toNat ≤ 60) :
    takeByte { mp with received := [start, code, tag] } b = { mp with received := [start, code, tag, b] } := by
  simp [takeByte, he, hb]

/-- A parameter byte is not judged. -/
theorem takeByte_param {start code tag len : Byte} {params : List Byte} (hn : params.length < len.toNat) :
    takeByte { mp with received := start :: code :: tag :: len :: params } b =
      { mp with received := start :: code :: tag :: len :: params ++ [b] } := by
  simp [takeByte, he, Nat.add_comm 5, hn.ne]

theorem takeByte_crc {start code tag len : Byte} {params : List Byte} (hn : params.length = len.toNat)
    (hb : b = crc8 (start :: code :: tag :: len :: params)) :
    takeByte { mp with received := start :: code :: tag :: len :: params } b = { mp with
      exchange := .waiting, received := [], awaiting := some { code := code, tag := tag, params := params } } := by
  simp [takeByte, he, hn, hb, Nat.add_comm 5]

theorem takeByte_badCrc {start code tag len : Byte} {params : List Byte} (hn : params.length = len.toNat)
    (hb : b ≠ crc8 (start :: code :: tag :: len :: params)) :
    takeByte { mp with received := start :: code :: tag :: len :: params } b = badFrame tag mp := by
  simp [takeByte, he, hn, hb, badFrame, respond, Nat.add_comm 5]

end Receiving

/-! ## A whole frame and its pieces -/

/-- The bytes of a request frame that its CRC-8 covers (Table 12.1.1). -/
def frameBody (code tag : Byte) (params : List Byte) : List Byte :=
  requestStart :: code :: tag :: BitVec.ofNat 8 params.length :: params

theorem requestFrameOf_eq (code tag : Byte) (params : List Byte) :
    requestFrameOf code tag params = frameBody code tag params ++ [crc8 (frameBody code tag params)] := rfl

theorem length_frameBody (code tag : Byte) (params : List Byte) : (frameBody code tag params).length = params.length + 4 := rfl

theorem toNat_lengthByte {n : Nat} (h : n ≤ 60) : (BitVec.ofNat 8 n).toNat = n := by
  rw [BitVec.toNat_ofNat]
  omega

/-- The response to a bad frame is no part of a frame, so the exchange ignores what follows. -/
theorem badFrame_ended (tag : Byte) (mp : ManagementPort) : (badFrame tag mp).exchange ≠ .receiving := by
  simp [badFrame, respond]

/-- A BAD_FRAME response in an exchange that holds no part of a frame (R177). -/
theorem badFrame_eq {mp : ManagementPort} (h0 : mp.received = []) (tag : Byte) :
    badFrame tag mp = { mp with exchange := .responding, response := bareResponse 0x01#8 tag } := by
  rw [badFrame, respond, responseFrame_plain, ← h0]
  rfl

section Frame

variable {mp : ManagementPort} (he : mp.exchange = .receiving) (h0 : mp.received = [])
include he h0

/-- Up to the CRC byte a well-formed frame is unfinished and every byte of it is kept. -/
theorem foldl_takeByte_unfinished (code tag : Byte) {params : List Byte} (hlen : params.length ≤ 60) :
    ∀ k ≤ params.length + 4, ((frameBody code tag params).take k).foldl takeByte mp =
      { mp with received := (frameBody code tag params).take k } := by
  intro k hk
  induction k with
  | zero => rw [List.take_zero, List.foldl_nil, ← h0]
  | succ k ih =>
    rw [List.take_succ_eq_append_getElem (by rw [length_frameBody]; omega), List.foldl_append, ih (by omega)]
    rcases k with _ | _ | _ | _ | k
    · exact takeByte_start he
    · exact takeByte_head he (.inl rfl)
    · exact takeByte_head he (.inr rfl)
    · exact takeByte_length he ((toNat_lengthByte hlen).trans_le hlen)
    · refine takeByte_param he ?_
      rw [List.length_take, toNat_lengthByte hlen]
      omega

theorem foldl_takeByte_body (code tag : Byte) {params : List Byte} (hlen : params.length ≤ 60) :
    (frameBody code tag params).foldl takeByte mp = { mp with received := frameBody code tag params } := by
  have h := foldl_takeByte_unfinished he h0 code tag hlen _ le_rfl
  rwa [← length_frameBody code tag params, List.take_length] at h

/-- A well-formed frame awaits its execution or its refusal, and the filler behind it is ignored. -/
theorem foldl_takeByte_wellFormed (code tag : Byte) {params : List Byte} (filler : List Byte) (hlen : params.length ≤ 60) :
    (requestFrameOf code tag params ++ filler).foldl takeByte mp =
      { mp with exchange := .waiting, awaiting := some { code := code, tag := tag, params := params } } := by
  rw [requestFrameOf_eq, List.append_assoc, List.foldl_append, foldl_takeByte_body he h0 code tag hlen]
  refine (foldl_takeByte_ended (takeByte_crc he (toNat_lengthByte hlen).symm rfl) (by simp) filler).trans ?_
  rw [← h0]

theorem foldl_takeByte_badCrc (code tag : Byte) {params : List Byte} {crc : Byte} (filler : List Byte)
    (hlen : params.length ≤ 60) (hcrc : crc ≠ crc8 (frameBody code tag params)) :
    (frameBody code tag params ++ crc :: filler).foldl takeByte mp = badFrame tag mp := by
  rw [List.foldl_append, foldl_takeByte_body he h0 code tag hlen]
  exact foldl_takeByte_ended (takeByte_badCrc he (toNat_lengthByte hlen).symm hcrc) (badFrame_ended _ _) filler

theorem foldl_takeByte_badLength (code tag : Byte) {len : Byte} (rest : List Byte) (hlen : 60 < len.toNat) :
    (requestStart :: code :: tag :: len :: rest).foldl takeByte mp = badFrame tag mp := by
  have hhead := foldl_takeByte_unfinished he h0 code tag (params := []) (by simp) 3 (by simp)
  rw [show requestStart :: code :: tag :: len :: rest = (frameBody code tag []).take 3 ++ len :: rest from rfl,
    List.foldl_append, hhead]
  exact foldl_takeByte_ended (takeByte_badLength he hlen) (badFrame_ended _ _) rest

theorem foldl_takeByte_badStart {b : Byte} (rest : List Byte) (hb : b ≠ requestStart) :
    (b :: rest).foldl takeByte mp = badFrame 0#8 mp :=
  foldl_takeByte_ended (takeByte_badStart he h0 hb) (badFrame_ended _ _) rest

end Frame

/-- Settles O4: the frame is well formed (`foldl_takeByte_wellFormed`), and its code and parameters read back
(`commandOf_encode`) with the length of their code (`paramLength_encode`). -/
theorem requestFrameCarriesItsCommand : Obligations.RequestFrameCarriesItsCommand := by
  intro i code tag params s hwf hi hr he h0
  have hlen : params.length ≤ 60 := (paramLength_le (paramLength_encode hi)).trans (by decide)
  refine ⟨{ code := code, tag := tag, params := params }, commandOf_encode hwf hi, ?_, rfl, ?_⟩
  · simp [Frame.refusal, paramLength_encode hi]
  · have hframe := foldl_takeByte_wellFormed he h0 code tag [] hlen
    rw [List.append_nil] at hframe
    rw [exec_requestFrame _ hr, hframe]

/-- Settles O5: the judgement of each byte by its own lemma about `takeByte`, and of a whole frame by the bytes before the one
that ends it (`foldl_takeByte_unfinished`). -/
theorem requestFrameJudged : Obligations.RequestFrameJudged := by
  intro s hr
  refine ⟨fun bytes he => ?_, fun xs ys t ht => ?_, fun he h0 => ⟨?_, ?_, ?_, ?_, ?_⟩⟩
  · rw [exec_requestFrame _ hr, foldl_takeByte_ignored he, withPort_self]
  · rw [exec_requestFrame _ hr] at ht
    cases ht
    rw [exec_requestFrame _ hr, exec_requestFrame _ (by exact hr), List.foldl_append]
    rfl
  · intro code tag params filler hlen
    rw [exec_requestFrame _ hr, foldl_takeByte_wellFormed he h0 code tag filler hlen]
  · intro b rest hb
    rw [exec_requestFrame _ hr, foldl_takeByte_badStart he h0 rest hb, badFrame_eq h0]
  · intro code tag len rest hlen
    have hframe := foldl_takeByte_badLength he h0 code tag rest hlen
    rw [exec_requestFrame _ hr, ← badFrame_eq h0, ← hframe]
    rfl
  · intro code tag params crc filler hlen hcrc
    have hframe := foldl_takeByte_badCrc he h0 code tag filler hlen hcrc
    rw [exec_requestFrame _ hr, ← badFrame_eq h0, ← hframe]
    rfl
  · intro code tag params k hlen hk
    have htake : (requestFrameOf code tag params).take k = (frameBody code tag params).take k :=
      List.take_append_of_le_length (by simp only [List.length_cons]; omega)
    rw [exec_requestFrame _ hr, htake, foldl_takeByte_unfinished he h0 code tag hlen k (by omega)]

end Sys2Proof.Safety


/-! # The response on SDO (R180, Table 11.2.1) -/

namespace Sys2Proof.Safety

open Sys2Proof.Machine

theorem shiftOut_idle {mp : ManagementPort} (he : mp.exchange = .idle) : shiftOut mp = mp := by
  simp [shiftOut, he]

theorem shiftOut_responding {mp : ManagementPort} {b : Byte} {rest : List Byte} (he : mp.exchange = .responding)
    (hresp : mp.response = b :: rest) :
    shiftOut mp = { mp with exchange := if rest = [] then .spent else .responding, response := rest, sdo := some b } := by
  simp [shiftOut, he, hresp]

/-- An exchange that shifts out no response shifts out 0x00. -/
theorem shiftOut_zero {mp : ManagementPort}
    (he : mp.exchange = .receiving ∨ mp.exchange = .waiting ∨ mp.exchange = .spent ∨ mp.exchange = .shutOut) :
    shiftOut mp = { mp with sdo := some 0#8 } := by
  rcases he with he | he | he | he <;> simp [shiftOut, he]

/-- Shifting out moves the management port alone. -/
theorem afterShifts_eq {s : State} (hr : s.pins.rstN = true) (n : Nat) : (afterShifts n s).mp = shiftOut^[n] s.mp := by
  induction n generalizing s with
  | zero => rfl
  | succ n ih => simp [afterShifts, exec_responseByteShiftedOut hr, ih, hr]

/-- The bytes of a response shift out in order. -/
theorem iterate_shiftOut_sdo {mp : ManagementPort} {bytes : List Byte} {k : Nat} (he : mp.exchange = .responding)
    (hresp : mp.response = bytes) (hk : k < bytes.length) : (shiftOut^[k + 1] mp).sdo = bytes[k]? := by
  induction bytes generalizing mp k with
  | nil => cases hk
  | cons b rest ih =>
    rw [Function.iterate_succ_apply, shiftOut_responding he hresp]
    cases k with
    | zero => rfl
    | succ k =>
      have hrest : k < rest.length := Nat.lt_of_succ_lt_succ hk
      exact ih (if_neg (List.ne_nil_of_length_pos (by omega))) rfl hrest

/-- The last byte of a response leaves the exchange SPENT. -/
theorem iterate_shiftOut_spent {mp : ManagementPort} {b : Byte} {rest : List Byte} (he : mp.exchange = .responding)
    (hresp : mp.response = b :: rest) : (shiftOut^[(b :: rest).length] mp).exchange = .spent := by
  induction rest generalizing mp b with
  | nil => exact congrArg ManagementPort.exchange (shiftOut_responding he hresp)
  | cons b' rest ih =>
    rw [List.length_cons, Function.iterate_succ_apply, shiftOut_responding he hresp]
    exact ih (by simp) rfl

/-- Settles O8: one byte by the exchange's state, and the whole response by induction on its bytes (`iterate_shiftOut_sdo`,
`iterate_shiftOut_spent`). -/
theorem responseShiftsOut : Obligations.ResponseShiftsOut := by
  intro s hr
  refine ⟨fun b rest he hresp => ⟨?_, fun k hk => ?_, ?_⟩, fun he => ?_, fun he => ?_⟩
  · rw [exec_responseByteShiftedOut hr, shiftOut_responding he hresp]
  · rw [afterShifts_eq hr, iterate_shiftOut_sdo he hresp hk]
  · rw [afterShifts_eq hr, iterate_shiftOut_spent he hresp]
  · rw [exec_responseByteShiftedOut hr, shiftOut_zero he]
  · rw [exec_responseByteShiftedOut hr, shiftOut_idle he, withPort_self]

end Sys2Proof.Safety


/-! # Every command completes (R183, section 11.4) -/

namespace Sys2Proof.Safety

open Sys2Proof.Machine

theorem exec_next (c : Instr) (s : State) : ∃ t, exec c s = .next t := by
  rcases exec_forms c s with ⟨-, he⟩ | ⟨f, he, -⟩ | ⟨body, he, -⟩
  · exact ⟨_, he⟩
  · exact ⟨_, he⟩
  · exact ⟨_, he⟩

/-- Settles O2: every row is a pin's, an event or an execution (`exec_forms`), and none touches the queue (`exec_pending`). -/
theorem everyCommandCompletes : Obligations.EveryCommandCompletes := by
  intro c s
  obtain ⟨t, ht⟩ := exec_next c s
  exact ⟨t, ht, exec_pending ht⟩

end Sys2Proof.Safety


/-! # The refusals of R178 and the response to an execution (R178, R179) -/

namespace Sys2Proof.Safety

open Sys2Proof.Machine

/-! ## The refusal of a frame -/

theorem refusal_unknownCommand {f : Frame} (h : paramLength f.code = none) : f.refusal = some .unknownCommand := by
  rw [Frame.refusal, h]

theorem refusal_badParam {f : Frame} {n : Nat} (h : paramLength f.code = some n) (hn : n ≠ f.params.length) :
    f.refusal = some .badParam := by
  simp [Frame.refusal, h, hn.symm]

theorem refusal_none {f : Frame} (h : paramLength f.code = some f.params.length) : f.refusal = none := by
  simp [Frame.refusal, h]

theorem refuseFrame_waiting {s : State} {f : Frame} {st : Status} (ha : s.mp.awaiting = some f) (hf : f.refusal = some st)
    (he : s.mp.exchange = .waiting) : refuseFrame s = withPort { s.mp with
      exchange := .responding, received := [], awaiting := none,
      response := bareResponse (BitVec.ofNat 8 st.code) f.tag } s := by
  simp [refuseFrame, ha, hf, he, respond, responseFrame_plain, withPort]

/-- A frame that is handed to its owning block is not refused. -/
theorem refuseFrame_handed {s : State} {f : Frame} (ha : s.mp.awaiting = some f) (hf : f.refusal = none) :
    refuseFrame s = s := by
  simp [refuseFrame, ha, hf]

theorem refuseFrame_notWaiting {s : State} (he : s.mp.exchange ≠ .waiting) :
    (refuseFrame s).mp.exchange = s.mp.exchange ∧ (refuseFrame s).mp.response = s.mp.response := by
  unfold refuseFrame
  (repeat' split) <;> simp_all

/-! ## The answer of an execution -/

section Answered

variable {c : Instr} {ans : Answer} {s : State} {f : Frame}

theorem deliverAnswer_noFrame (ha : s.mp.awaiting = none) :
    deliverAnswer c ans s = withPort { s.mp with answer := some ans } s := by
  simp [deliverAnswer, ha, withPort]

theorem deliverAnswer_otherFrame (ha : s.mp.awaiting = some f) (hc : f.command ≠ some c) :
    deliverAnswer c ans s = withPort { s.mp with answer := some ans } s := by
  simp [deliverAnswer, ha, hc, withPort]

/-- CS_N has risen since the frame: its response is discarded (R181). -/
theorem deliverAnswer_discarded (ha : s.mp.awaiting = some f) (hc : f.command = some c) (he : s.mp.exchange ≠ .waiting) :
    deliverAnswer c ans s = withPort { s.mp with awaiting := none, answer := some ans } s := by
  simp [deliverAnswer, ha, hc, he, withPort]

theorem deliverAnswer_waiting (ha : s.mp.awaiting = some f) (hc : f.command = some c) (he : s.mp.exchange = .waiting) :
    deliverAnswer c ans s = withPort { s.mp with
      exchange := .responding, received := [], awaiting := none, response := responseFrame f.tag ans,
      answer := some ans } s := by
  simp [deliverAnswer, ha, hc, he, respond, withPort]

theorem deliverAnswer_notWaiting (he : s.mp.exchange ≠ .waiting) :
    (deliverAnswer c ans s).mp.exchange = s.mp.exchange ∧ (deliverAnswer c ans s).mp.response = s.mp.response := by
  cases ha : s.mp.awaiting with
  | none => simp [deliverAnswer_noFrame ha]
  | some f =>
    by_cases hc : f.command = some c
    · simp [deliverAnswer_discarded ha hc he]
    · simp [deliverAnswer_otherFrame ha hc]

end Answered

/-- Settles O6: the two refusals by `refuseFrame_waiting`, and the answer by whether a frame awaits it and the exchange still
waits. -/
theorem responsesComposed : Obligations.ResponsesComposed := by
  intro s f
  refine ⟨fun hr ha => ⟨fun he hcode => ?_, fun n he hcode hn => ?_, fun hcode => ?_⟩, fun c ans =>
    ⟨deliverAnswer_noFrame, deliverAnswer_otherFrame, deliverAnswer_discarded, fun ha hc he =>
      ⟨_, rfl, deliverAnswer_waiting ha hc he⟩⟩⟩
  · rw [exec_frameRefusal hr, refuseFrame_waiting ha (refusal_unknownCommand hcode) he]
    rfl
  · rw [exec_frameRefusal hr, refuseFrame_waiting ha (refusal_badParam hcode hn) he]
    rfl
  · rw [exec_frameRefusal hr, refuseFrame_handed ha (refusal_none hcode)]

end Sys2Proof.Safety


/-! # CS_N (R176, R181, R182) -/

namespace Sys2Proof.Safety

open Sys2Proof.Machine

/-- What a rise of CS_N leaves of the management port (R181). -/
def portAtRise (mp : ManagementPort) : ManagementPort :=
  { mp with exchange := .idle, received := [], response := [], sdo := none
            awaiting := mp.awaiting.filter fun f => f.refusal.isNone }

theorem csRise_low {s : State} (h : s.pins.csN = false) :
    csRise s = withPort (portAtRise s.mp) { s with pins := { s.pins with csN := true } } := by
  simp [csRise, h, withPort, portAtRise, setCsN]

theorem portAtRise_notWaiting (mp : ManagementPort) : (portAtRise mp).exchange ≠ .waiting := by simp [portAtRise]

theorem csFall_high {s : State} (h : s.pins.csN = true) (hr : s.pins.rstN = true) :
    csFall s = withPort { s.mp with
      exchange := if s.mp.awaiting.isSome then .shutOut else .receiving, received := [], response := [], sdo := some 0#8 }
      { s with pins := { s.pins with csN := false } } := by
  simp [csFall, h, hr, withPort, setCsN]

/-- While RST_N is low no exchange begins (R176). -/
theorem csFall_inReset {s : State} (h : s.pins.csN = true) (hr : s.pins.rstN = false) :
    csFall s = { s with pins := { s.pins with csN := false } } := by
  simp [csFall, h, hr, setCsN]

/-- A frame handed to its owning block still awaits its execution after the rise. -/
theorem portAtRise_awaiting {mp : ManagementPort} {f : Frame} (ha : mp.awaiting = some f) (hf : f.refusal = none) :
    (portAtRise mp).awaiting = some f := by
  simp [portAtRise, ha, hf]

/-- A FRAME_REFUSAL composes nothing for an exchange that does not wait. -/
theorem frameRefusal_notWaiting {s t : State} (he : s.mp.exchange ≠ .waiting) (h : exec .frameRefusal s = .next t) :
    t.mp.exchange = s.mp.exchange ∧ t.mp.response = s.mp.response := by
  cases hr : s.pins.rstN with
  | true =>
    rw [exec_frameRefusal hr] at h
    cases h
    exact refuseFrame_notWaiting he
  | false =>
    cases exec_low hr rfl h
    exact ⟨rfl, rfl⟩

/-- Settles O7: the fall by RST_N (`csFall_high`, `csFall_inReset`); after the rise the exchange does not wait, so neither an
answer nor a refusal composes a response. -/
theorem chipSelect : Obligations.ChipSelect := by
  intro s
  refine ⟨fun h hr => congrArg _ (csFall_high h hr), fun h hr => congrArg _ (csFall_inReset h hr), fun h => ?_⟩
  refine ⟨portAtRise s.mp, congrArg _ (csRise_low h), rfl, rfl, rfl, rfl, rfl, fun f => portAtRise_awaiting, ?_, ?_⟩
  · intro c ans u hu
    have hkept := deliverAnswer_notWaiting (c := c) (ans := ans) (s := u) (hu ▸ portAtRise_notWaiting s.mp)
    rwa [hu] at hkept
  · intro u v hu hv
    have hkept := frameRefusal_notWaiting (hu ▸ portAtRise_notWaiting s.mp) hv
    rwa [hu] at hkept

end Sys2Proof.Safety


/-! # The management encoding, and the front of the queue (R187, notes/assumptions/3.md) -/

namespace Sys2Proof.Safety

open Sys2Proof.Machine

/-- Settles O3: every field is read back from its bytes (`commandOf_encode`), the parameters have the length of their code
(`paramLength_encode`), and no code has more than 20 bytes of them (`paramLength_le`). -/
theorem managementEncodingRoundTrip : Obligations.ManagementEncodingRoundTrip := by
  intro i code params hwf hi
  have hlength := paramLength_encode hi
  exact ⟨commandOf_encode hwf hi, hlength, (paramLength_le hlength).trans (by decide)⟩

theorem step_of_pending_cons {s : State} {c : Instr} {q : List Instr} (h : s.pending = c :: q) :
    step s = exec c (setPending q s) := by
  rw [step, h]

theorem step_of_pending_nil {s : State} (h : s.pending = []) : step s = .next s := by
  rw [step, h]

/-- Settles O1, by the two forms of the queue. -/
theorem stepTakesTheFrontCommand : Obligations.StepTakesTheFrontCommand :=
  fun _ => ⟨fun _ _ => step_of_pending_cons, step_of_pending_nil⟩

end Sys2Proof.Safety
